-- ==== Sys2Proof/Word.lean ====
section
/-! DEFINITION. The bit-vector types of MBRTU (spec/00_scope.md R7). -/

namespace Sys2Proof

/-- A byte: every frame element, operand and read value is 8 bits, unsigned (R7). -/
abbrev Byte := BitVec 8

/-- A 16-bit value: a command word (30_encoding.md R70) or a checksum (R7). -/
abbrev Word := BitVec 16

/-- A read-port address, 12 bits (20_memory.md R50, R52). -/
abbrev ReadAddr := BitVec 12

end Sys2Proof
end

