-- ==== Sys2Proof/Config.lean ====
section
/-! DEFINITION. The parameters of MBRTU (spec/00_scope.md R6), each at the value R6 fixes, and the one parameter the
spec leaves to the platform, HOST_BINDING (20_memory.md R64). -/

namespace Sys2Proof.Config

/-- `ADDR_MIN`: smallest valid slave address, the broadcast address. -/
def addrMin : Nat := 0

/-- `ADDR_MAX`: largest valid slave address. -/
def addrMax : Nat := 247

/-- `FUNC_MIN`: smallest valid function code. -/
def funcMin : Nat := 1

/-- `FUNC_MAX`: largest valid function code. -/
def funcMax : Nat := 127

/-- `CRC_INIT`: initial CRC register. -/
def crcInit : Word := 0xFFFF#16

/-- `CRC_POLY`: reflected polynomial. -/
def crcPoly : Word := 0xA001#16

/-- `P_MAXPAY`: payload capacity and largest value size. DESIGN CHOICE (log entry 8): the value R6 fixes, where D5 lets
a model take a smaller one. -/
def maxPay : Nat := 252

/-- `FRAME_MAX`: largest frame, `P_MAXPAY + 4`. -/
def frameMax : Nat := maxPay + 4

/-- `P_PAYLOAD_REQUIRED`: a build needs a payload to have been begun. -/
def payloadRequired : Bool := true

/-- `P_XPORT_AT_RESET`: a transport is attached at reset. -/
def xportAtReset : Bool := true

/-- `HOST_BINDING` (R64): where the ports sit in a host's own address space. It has no value here, and no definition of
the model reads it, since "nothing in this spec depends on it". -/
opaque hostBinding : Nat

end Sys2Proof.Config
end

