-- ==== Sys2Proof/Syntax.lean ====
section
/-! DEFINITION. The commands of MBRTU, one constructor per row of spec/opcode_table.json (30_encoding.md R72). -/

namespace Sys2Proof

/-- A decoded command. The operand of the commands that take one is the byte `word[7:0]` (R71). -/
inductive Instr where
  /-- CRC_INIT (40_crc.md R102) -/
  | crcInit
  /-- CRC_BYTE b (40_crc.md R103) -/
  | crcByte (b : Byte)
  /-- REQ_CLEAR (41_request.md R122) -/
  | reqClear
  /-- REQ_ADDR a (41_request.md R123) -/
  | reqAddr (a : Byte)
  /-- REQ_FUNC f (41_request.md R124) -/
  | reqFunc (f : Byte)
  /-- REQ_PAYLOAD_BEGIN (41_request.md R125) -/
  | reqPayloadBegin
  /-- REQ_PAYLOAD_BYTE b (41_request.md R126) -/
  | reqPayloadByte (b : Byte)
  /-- REQ_BUILD (41_request.md R128) -/
  | reqBuild
  /-- RSP_SETSIZE n (42_response.md R140) -/
  | rspSetsize (n : Byte)
  /-- RSP_CLEAR (42_response.md R141) -/
  | rspClear
  /-- RSP_BYTE b (42_response.md R142) -/
  | rspByte (b : Byte)
  /-- RSP_PARSE (42_response.md R143) -/
  | rspParse
  /-- RSP_VALIDATE (42_response.md R145) -/
  | rspValidate
  /-- SES_TRANSACT (43_session.md R160) -/
  | sesTransact
  /-- SES_RELEASE (43_session.md R162) -/
  | sesRelease
  deriving DecidableEq, Repr

end Sys2Proof
end

