-- ==== Sys2Proof/WellFormed.lean ====
section
/-! DEFINITION. Well-formed assembler lines (spec/30_encoding.md R76): one command per line, with an operand exactly when
the command takes one. An operand is written as a number, so it may be too large for the operand byte (R71); a decoded
command of `Instr` carries a byte and needs no further check (R75: every operand byte is a legal encoding). -/

namespace Sys2Proof

/-- The mnemonics of R72. -/
inductive Mnemonic where
  | CRC_INIT | CRC_BYTE
  | REQ_CLEAR | REQ_ADDR | REQ_FUNC | REQ_PAYLOAD_BEGIN | REQ_PAYLOAD_BYTE | REQ_BUILD
  | RSP_SETSIZE | RSP_CLEAR | RSP_BYTE | RSP_PARSE | RSP_VALIDATE
  | SES_TRANSACT | SES_RELEASE
  deriving DecidableEq, Repr

/-- Whether a command takes an operand (R72, column "operand"). -/
def Mnemonic.takesOperand : Mnemonic → Bool
  | .CRC_BYTE | .REQ_ADDR | .REQ_FUNC | .REQ_PAYLOAD_BYTE | .RSP_SETSIZE | .RSP_BYTE => true
  | .CRC_INIT | .REQ_CLEAR | .REQ_PAYLOAD_BEGIN | .REQ_BUILD | .RSP_CLEAR | .RSP_PARSE | .RSP_VALIDATE
  | .SES_TRANSACT | .SES_RELEASE => false

/-- One line of assembler source (R76): `MNEMONIC` or `MNEMONIC imm`. -/
structure AsmLine where
  mnemonic : Mnemonic
  imm : Option Nat
  deriving DecidableEq, Repr

/-- The check on a line: an operand where, and only where, the command takes one, and then 0 to 255 (R71, R76). -/
def AsmLine.wellFormed (l : AsmLine) : Bool :=
  match l.mnemonic.takesOperand, l.imm with
  | true, some n => decide (n ≤ 255)
  | true, none => false
  | false, none => true
  | false, some _ => false

/-- The source line of a decoded command. -/
def Instr.line : Instr → AsmLine
  | .crcInit => ⟨.CRC_INIT, none⟩
  | .crcByte b => ⟨.CRC_BYTE, some b.toNat⟩
  | .reqClear => ⟨.REQ_CLEAR, none⟩
  | .reqAddr a => ⟨.REQ_ADDR, some a.toNat⟩
  | .reqFunc f => ⟨.REQ_FUNC, some f.toNat⟩
  | .reqPayloadBegin => ⟨.REQ_PAYLOAD_BEGIN, none⟩
  | .reqPayloadByte b => ⟨.REQ_PAYLOAD_BYTE, some b.toNat⟩
  | .reqBuild => ⟨.REQ_BUILD, none⟩
  | .rspSetsize n => ⟨.RSP_SETSIZE, some n.toNat⟩
  | .rspClear => ⟨.RSP_CLEAR, none⟩
  | .rspByte b => ⟨.RSP_BYTE, some b.toNat⟩
  | .rspParse => ⟨.RSP_PARSE, none⟩
  | .rspValidate => ⟨.RSP_VALIDATE, none⟩
  | .sesTransact => ⟨.SES_TRANSACT, none⟩
  | .sesRelease => ⟨.SES_RELEASE, none⟩

end Sys2Proof
end

