-- ==== Sys2Proof/Decode.lean ====
section
/-! DEFINITION. The command decoder and encoder (spec/30_encoding.md R70 to R76). -/

namespace Sys2Proof

/-- Why a command word is illegal: the two cases of R73. -/
inductive Illegal where
  /-- R73(a): the opcode is none of the fifteen of R72. -/
  | reservedOpcode (op : Byte)
  /-- R73(b): the opcode names a command without an operand, and the operand byte is not zero. -/
  | operandNotZero (op imm : Byte)
  deriving DecidableEq, Repr

/-- Field `op`, bits 15:8 of a command word (R70). -/
def opField (w : Word) : Byte := w.extractLsb' 8 8

/-- Field `imm`, bits 7:0 of a command word (R70, R71). -/
def immField (w : Word) : Byte := w.extractLsb' 0 8

/-- A command without an operand is decoded only where `imm` is 0x00 (R73(b)). -/
def noOperand (op imm : Byte) (i : Instr) : Except Illegal Instr :=
  if imm = 0#8 then .ok i else .error (.operandNotZero op imm)

/-- The opcode map (R72) on the two fields of a word. -/
def decodeFields (op imm : Byte) : Except Illegal Instr :=
  match op.toNat with
  | 0x10 => noOperand op imm .crcInit
  | 0x11 => .ok (.crcByte imm)
  | 0x20 => noOperand op imm .reqClear
  | 0x21 => .ok (.reqAddr imm)
  | 0x22 => .ok (.reqFunc imm)
  | 0x23 => noOperand op imm .reqPayloadBegin
  | 0x24 => .ok (.reqPayloadByte imm)
  | 0x25 => noOperand op imm .reqBuild
  | 0x30 => .ok (.rspSetsize imm)
  | 0x31 => noOperand op imm .rspClear
  | 0x32 => .ok (.rspByte imm)
  | 0x33 => noOperand op imm .rspParse
  | 0x34 => noOperand op imm .rspValidate
  | 0x40 => noOperand op imm .sesTransact
  | 0x41 => noOperand op imm .sesRelease
  | _ => .error (.reservedOpcode op)

/-- The decoder: total, a command with its operand or the reason why the word is illegal (R72 to R74). It does not look
at the state: whether a command is enabled is decided after decoding (R74). -/
def decode (w : Word) : Except Illegal Instr := decodeFields (opField w) (immField w)

/-- The opcode of a mnemonic (R72). -/
def Mnemonic.opcode : Mnemonic → Byte
  | .CRC_INIT => 0x10#8
  | .CRC_BYTE => 0x11#8
  | .REQ_CLEAR => 0x20#8
  | .REQ_ADDR => 0x21#8
  | .REQ_FUNC => 0x22#8
  | .REQ_PAYLOAD_BEGIN => 0x23#8
  | .REQ_PAYLOAD_BYTE => 0x24#8
  | .REQ_BUILD => 0x25#8
  | .RSP_SETSIZE => 0x30#8
  | .RSP_CLEAR => 0x31#8
  | .RSP_BYTE => 0x32#8
  | .RSP_PARSE => 0x33#8
  | .RSP_VALIDATE => 0x34#8
  | .SES_TRANSACT => 0x40#8
  | .SES_RELEASE => 0x41#8

/-- The operand byte of a command, 0x00 where it has none (R70). -/
def Instr.imm : Instr → Byte
  | .crcByte b | .reqAddr b | .reqFunc b | .reqPayloadByte b | .rspSetsize b | .rspByte b => b
  | .crcInit | .reqClear | .reqPayloadBegin | .reqBuild | .rspClear | .rspParse | .rspValidate
  | .sesTransact | .sesRelease => 0x00#8

/-- The encoder: `op` in bits 15:8, `imm` in bits 7:0 (R70, R72). -/
def encode (i : Instr) : Word := i.line.mnemonic.opcode ++ i.imm

/-- The assembler: a well-formed line becomes the word `(op << 8) | imm` (R76); an ill-formed line is no line. -/
def assemble (l : AsmLine) : Option Word :=
  if l.wellFormed then
    some ((BitVec.zeroExtend 16 l.mnemonic.opcode <<< 8) ||| BitVec.ofNat 16 (l.imm.getD 0))
  else none

/-- The mask of a row as R72 gives it: the operand of a command without one is part of the pattern. -/
def Mnemonic.mask (m : Mnemonic) : Word := if m.takesOperand then 0xFF00#16 else 0xFFFF#16

/-- Whether a word lies in a row of the opcode map, as the match and mask pairs of R72 say. -/
def Mnemonic.matchesWord (m : Mnemonic) (w : Word) : Bool := w &&& m.mask = (m.opcode ++ 0x00#8 : Word)

/-- What the decoder reads from an opcode-table word. A command is one 16-bit word written at once (R70), so the table's
bit numbers are the word's own; a longer word is no command word. -/
def decodeTableWord (nbits w : Nat) : Option Instr :=
  if nbits ≤ 16 then
    match decode (BitVec.ofNat 16 (w % 2 ^ nbits)) with
    | .ok i => some i
    | .error _ => none
  else none

end Sys2Proof
end

