-- ==== Sys2Proof/Machine/State.lean ====
section
/-! DEFINITION. The state of MBRTU, its environment and the two lists of the model's own, as plain data
(spec/10_state.md R20 to R39), and the reasons a step can stop. -/

namespace Sys2Proof.Machine

/-- The result codes of 60_exceptions.md R200; codes 0x09 to 0xFF never occur (R30). -/
inductive ResultCode where
  | none | ok | noResponse | invalidArgument | invalidState | malformedResponse
  | dataCorrupted | mismatchAddress | mismatchFunction
  deriving DecidableEq, Repr

/-- The fault codes of 60_exceptions.md R206; codes 0x05 to 0xFF never occur. -/
inductive FaultCode where
  | none | illegalCommand | concurrentUse | transportOverrun | transportUnsolicited
  deriving DecidableEq, Repr

/-- The state of the response register set (R25); the fourth value of its two bits is never written. -/
inductive RspState where
  | none | parsed | valid
  deriving DecidableEq, Repr

/-- One entry of TXLOG (R36): a frame handed to the transport and the length expected back. -/
structure Transmit where
  frame : List Byte
  expLen : Nat
  deriving DecidableEq, Repr

/-- An answer of the transport agent (43_session.md R165 to R167). -/
inductive Answer where
  | noResponse
  | deliver (bytes : List Byte)
  deriving DecidableEq, Repr

/-- One action of the host agent: a command write (30_encoding.md R70), one read of the read port (00_scope.md R9), or
the pseudo-operation WAIT (R76). -/
inductive HostAction where
  | write (w : Word)
  | read (a : ReadAddr)
  | wait
  deriving DecidableEq, Repr

/-- Who takes the next step (00_scope.md R11; reset: 70_reset_and_hazards.md R240). A turn of the transport carries the
answer it draws (43_session.md R164). -/
inductive Turn where
  | host
  | answer (a : Answer)
  | reset
  deriving DecidableEq, Repr

/-- Everything the spec gives the machine: the block (R20), its environment (R36), and two lists of the model's own that
say what the outside world does next (log entry 1). The buffers are byte lists whose lengths are the length registers
PLEN, TXLEN, RXLEN (R26). -/
structure State where
  /-- CRC (R21) -/
  crc : Word
  /-- REQ_ADDR (R22) -/
  reqAddr : Byte
  /-- REQ_FUNC (R22) -/
  reqFunc : Byte
  /-- ADDR_SET (R23) -/
  addrSet : Bool
  /-- FUNC_SET (R23) -/
  funcSet : Bool
  /-- PAY_SET (R23) -/
  paySet : Bool
  /-- VSIZE (R24) -/
  vsize : Byte
  /-- RSP_STATE (R25) -/
  rspState : RspState
  /-- PAYLOAD with PLEN (R26, R27) -/
  payload : List Byte
  /-- TX with TXLEN (R26, R27) -/
  tx : List Byte
  /-- RX with RXLEN (R26, R27) -/
  rx : List Byte
  /-- REQ_BUILT (R28) -/
  reqBuilt : Bool
  /-- RESULT (R30) -/
  result : ResultCode
  /-- DETAIL (R31) -/
  detail : Byte
  /-- FAULT (R32) -/
  fault : Bool
  /-- FAULT_CODE (R32) -/
  faultCode : FaultCode
  /-- XPORT (R33) -/
  xport : Bool
  /-- BUSY (R34) -/
  busy : Bool
  /-- The environment's PENDING flag with PEND_LEN (R36): `some n` while PENDING is true, n being PEND_LEN (log entry 4) -/
  pending : Option Nat
  /-- The environment's TXLOG, oldest first (R36) -/
  txLog : List Transmit
  /-- The host's program still to be carried out; host state, not block state (R37; log entry 1) -/
  host : List HostAction
  /-- Whose turn it is, next first, with the transport's free draws (R11, R61, R164; log entry 1) -/
  turns : List Turn
  deriving DecidableEq, Repr

/-- No step of MBRTU stops the machine: the spec's faults are sticky status bits the machine goes on with
(60_exceptions.md R205), so they are next states, and this type has no constructor (log entry 10; nothing raises it, so
it is neither safe nor unsafe). -/
inductive Fault where
  deriving DecidableEq, Repr

/-- Why an instruction has no meaning. -/
inductive Refusal where
  /-- Raised by `exec` alone, for an instruction the model does not give a meaning yet. Safe: nothing can be proved of a
  run that meets it. No arm raises it now. -/
  | notModelled (mnemonic : String)
  deriving DecidableEq, Repr

/-- The machine at power-on: the values of R39, TXLOG empty. The host's program and the order of turns come from outside
and are empty here (DESIGN CHOICE, log entry 1). -/
def State.reset : State where
  crc := 0xFFFF#16
  reqAddr := 0x00#8
  reqFunc := 0x00#8
  addrSet := false
  funcSet := false
  paySet := false
  vsize := 0x00#8
  rspState := .none
  payload := []
  tx := []
  rx := []
  reqBuilt := false
  result := .none
  detail := 0x00#8
  fault := false
  faultCode := .none
  xport := Config.xportAtReset
  busy := false
  pending := Option.none
  txLog := []
  host := []
  turns := []

end Sys2Proof.Machine
end

