-- ==== Sys2Proof/Machine/Operands.lean ====
section
/-! DEFINITION. Byte order, buffer indexing, lengths and operand ranges (spec/00_scope.md R6, R8; 10_state.md R24, R27;
20_memory.md R54, R58). -/

namespace Sys2Proof.Machine

/-- `v[7:0]`, the LO half (R8, R58). -/
def loByte (v : Word) : Byte := v.extractLsb' 0 8

/-- `v[15:8]`, the HI half (R8, R58). -/
def hiByte (v : Word) : Byte := v.extractLsb' 8 8

/-- A length as the 16-bit value whose halves are read (R27, R52). -/
def lenWord (n : Nat) : Word := BitVec.ofNat 16 n

/-- `n[7:0]` of a length (R143, R166). -/
def lenByte (n : Nat) : Byte := BitVec.ofNat 8 n

/-- `Buf[i]`: byte i of a buffer, 0x00 at or above its length (R54). No rule reads above the length in a state a run
reaches (R26); in the others the same 0x00 is taken (DESIGN CHOICE, log entry 5). -/
def byteAt (buf : List Byte) (i : Nat) : Byte := buf.getD i 0x00#8

/-- PLEN (R27). -/
def State.plen (s : State) : Nat := s.payload.length

/-- TXLEN (R27). -/
def State.txlen (s : State) : Nat := s.tx.length

/-- RXLEN (R27). -/
def State.rxlen (s : State) : Nat := s.rx.length

/-- EXPLEN, `VSIZE + 4` (R24). -/
def State.explen (s : State) : Nat := s.vsize.toNat + 4

/-- The addresses REQ_ADDR accepts (41_request.md R123). -/
def addrValid (a : Byte) : Bool := Config.addrMin ≤ a.toNat && a.toNat ≤ Config.addrMax

/-- The function codes REQ_FUNC accepts (41_request.md R124). -/
def funcValid (f : Byte) : Bool := Config.funcMin ≤ f.toNat && f.toNat ≤ Config.funcMax

/-- The value sizes RSP_SETSIZE accepts (42_response.md R140). -/
def sizeValid (n : Byte) : Bool := n.toNat ≤ Config.maxPay

end Sys2Proof.Machine
end

