-- ==== Sys2Proof/Machine/Checksum.lean ====
section
/-! DEFINITION. The checksum function (spec/40_crc.md R100, R101). The bit loop and the missing final exclusive-or are
marked in the spec as general knowledge (93_implementation_defined.md section 2); R100 and R101 state them, and the model
follows those rules (log entry 13). -/

namespace Sys2Proof.Machine

/-- One shift of the loop of R100: right by one, and the polynomial added where bit 0 was 1. -/
def crcShift (c : Word) : Word :=
  if c.getLsbD 0 then (c >>> 1) ^^^ Config.crcPoly else c >>> 1

/-- `repeat k times` of R100's loop body. -/
def crcShifts : Nat → Word → Word
  | 0, c => c
  | k + 1, c => crcShifts k (crcShift c)

/-- `crcStep(c, b)` (R100): the byte enters at the low end, then eight shifts. -/
def crcStep (c : Word) (b : Byte) : Word := crcShifts 8 (c ^^^ BitVec.zeroExtend 16 b)

/-- The accumulator after the bytes of `s`, from `c` on. -/
def crcFrom (c : Word) (s : List Byte) : Word := s.foldl crcStep c

/-- `crc16(s)` (R101): no final exclusive-or, no bit reversal. -/
def crc16 (s : List Byte) : Word := crcFrom Config.crcInit s

/-- `crcBytes(s)` (R101): the two checksum bytes in transmit order, low byte first (20_memory.md R57). -/
def crcBytes (s : List Byte) : List Byte := [loByte (crc16 s), hiByte (crc16 s)]

/-- `compute(bytes, offset, length)` of R101: the checksum bytes of `bytes[offset .. offset+length-1]`. A range that runs
outside `bytes` cannot reach the block (R104); here it is cut to the bytes there are (DESIGN CHOICE, log entry 9). -/
def compute (bytes : List Byte) (offset length : Nat) : List Byte := crcBytes ((bytes.drop offset).take length)

end Sys2Proof.Machine
end

