-- ==== Sys2Proof/Machine/Flags.lean ====
section
/-! DEFINITION. The code values and the status bytes computed from the state: RESULT and FAULT_CODE codes, FLAGS, STATUS,
and the masks of missing conditions (spec/10_state.md R23, R25, R29; 41_request.md R127; 60_exceptions.md R200, R206). -/

namespace Sys2Proof.Machine

/-- The code of a result (R200). -/
def ResultCode.code : ResultCode → Byte
  | .none => 0x00#8
  | .ok => 0x01#8
  | .noResponse => 0x02#8
  | .invalidArgument => 0x03#8
  | .invalidState => 0x04#8
  | .malformedResponse => 0x05#8
  | .dataCorrupted => 0x06#8
  | .mismatchAddress => 0x07#8
  | .mismatchFunction => 0x08#8

/-- The code of a fault (R206). -/
def FaultCode.code : FaultCode → Byte
  | .none => 0x00#8
  | .illegalCommand => 0x01#8
  | .concurrentUse => 0x02#8
  | .transportOverrun => 0x03#8
  | .transportUnsolicited => 0x04#8

/-- The two bits of RSP_STATE (R25). -/
def RspState.bits : RspState → BitVec 2
  | .none => 0#2
  | .parsed => 1#2
  | .valid => 2#2

/-- FLAGS (R23): ADDR_SET in bit 0, FUNC_SET in bit 1, PAY_SET in bit 2, bits 7:3 zero. -/
def State.flags (s : State) : Byte :=
  (0#5 ++ BitVec.ofBool s.paySet ++ BitVec.ofBool s.funcSet ++ BitVec.ofBool s.addrSet : BitVec 8)

/-- STATUS (R29): BUSY in bit 0, FAULT in bit 1, REQ_BUILT in bit 2, XPORT in bit 3, RSP_STATE in bits 5:4, bits 7:6 zero. -/
def State.status (s : State) : Byte :=
  (0#2 ++ s.rspState.bits ++ BitVec.ofBool s.xport ++ BitVec.ofBool s.reqBuilt ++ BitVec.ofBool s.fault
    ++ BitVec.ofBool s.busy : BitVec 8)

/-- `missing()` (R127): the mask of required builder fields that were never set. -/
def State.missing (s : State) : Byte :=
  (if s.addrSet then 0x00#8 else 0x01#8)
    ||| (if s.funcSet then 0x00#8 else 0x02#8)
    ||| (if Config.payloadRequired && !s.paySet then 0x04#8 else 0x00#8)

/-- What RSP_VALIDATE finds missing (42_response.md R145): no built request 0x10, no parsed response 0x20. -/
def State.validateMissing (s : State) : Byte :=
  (if s.reqBuilt then 0x00#8 else 0x10#8) ||| (if s.rspState = .parsed then 0x00#8 else 0x20#8)

/-- What SES_TRANSACT finds missing (43_session.md R160): the builder's fields, and 0x40 with the transport released. -/
def State.transactMissing (s : State) : Byte :=
  s.missing ||| (if s.xport then 0x00#8 else 0x40#8)

end Sys2Proof.Machine
end

