-- ==== Sys2Proof/Machine/Ops.lean ====
section
/-! DEFINITION. The shared operations: finishing with a result, raising a fault and leaving it by reset, the enabling
check, building, validating and emitting a frame (spec/00_scope.md R9; 41_request.md R121; 42_response.md R144;
43_session.md R160; 60_exceptions.md R204, R205; 70_reset_and_hazards.md R240). -/

namespace Sys2Proof.Machine

/-- `finish(code, detail)` (00_scope.md R9): RESULT and DETAIL are written together (R31). -/
def State.finish (s : State) (code : ResultCode) (detail : Byte) : State :=
  { s with result := code, detail := detail }

/-- `raise Fault(code)` (60_exceptions.md R205): FAULT and FAULT_CODE are written and nothing else; there is no handler,
no saved state and no change of control (R209). -/
def State.raiseFault (s : State) (code : FaultCode) : State :=
  { s with fault := true, faultCode := code }

/-- Raising a fault in a block that may already hold one: only the first is recorded (R205). -/
def State.raiseFirst (s : State) (code : FaultCode) : State :=
  if s.fault then s else s.raiseFault code

/-- Reset (70_reset_and_hazards.md R240), the only way out of a fault (R210): every element of the block takes its value
of R39 and PENDING is cleared; TXLOG is kept (90_conflicts.md C3). The host's program and the order of turns are the
outside world's, not the block's, and stay (DESIGN CHOICE, log entry 7). -/
def State.resetBlock (s : State) : State :=
  { State.reset with txLog := s.txLog, host := s.host, turns := s.turns }

/-- The enabling check of the CRC family (R204): with FAULT nothing changes; BUSY does not matter. -/
def whenNotFaulted (s : State) (run : State → State) : Host.Outcome State Fault Refusal :=
  .next (if s.fault then s else run s)

/-- The enabling check of the request, response and session families (R204): an existing fault first, then use during an
exchange, then the command's own rule. -/
def whenIdle (s : State) (run : State → State) : Host.Outcome State Fault Refusal :=
  .next (if s.fault then s else if s.busy then s.raiseFault .concurrentUse else run s)

/-- `buildFrame(a, f, p)` (41_request.md R121): address, function, payload, then the two checksum bytes over all of them. -/
def buildFrame (a f : Byte) (p : List Byte) : List Byte :=
  ([a, f] ++ p) ++ crcBytes ([a, f] ++ p)

/-- The frame the builder's fields make (R128, R160). -/
def State.builderFrame (s : State) : List Byte := buildFrame s.reqAddr s.reqFunc s.payload

/-- A successful build: TX and TXLEN take the frame, REQ_BUILT is set (R128, R160). -/
def State.storeFrame (s : State) : State :=
  { s with tx := s.builderFrame, reqBuilt := true }

/-- Empty RX and drop any parsed response: `RXLEN <- 0; RSP_STATE <- NONE` (R140, R141, R160). -/
def State.emptyRx (s : State) : State :=
  { s with rx := [], rspState := .none }

/-- `emit Transmit(frame, n)` (43_session.md R160): PENDING and PEND_LEN are set and the pair is appended to TXLOG. -/
def State.emitTransmit (s : State) (frame : List Byte) (n : Nat) : State :=
  { s with pending := some n, txLog := s.txLog ++ [⟨frame, n⟩] }

/-- `check()` (42_response.md R144), with `n = EXPLEN`: checksum, then address echo, then function echo, the first that
fails winning; the answer carries the code and the detail byte. The request's bytes are read from TX. -/
def State.check (s : State) : ResultCode × Byte :=
  let n := s.explen
  let sum := crcBytes (s.rx.take (n - 2))
  if byteAt s.rx (n - 2) ≠ byteAt sum 0 ∨ byteAt s.rx (n - 1) ≠ byteAt sum 1 then
    (.dataCorrupted, 0x00#8)
  else if byteAt s.rx 0 ≠ byteAt s.tx 0 then
    (.mismatchAddress, byteAt s.tx 0)
  else if byteAt s.rx 1 ≠ byteAt s.tx 1 then
    (.mismatchFunction, byteAt s.tx 1)
  else
    (.ok, 0x00#8)

/-- The end of a validation (R145, R166): VALID where all three checks pass, else NONE ("no partial Response"), and the
outcome in RESULT and DETAIL. -/
def State.conclude (s : State) : State :=
  let outcome := s.check
  { s with rspState := if outcome.1 = ResultCode.ok then RspState.valid else RspState.none }.finish outcome.1 outcome.2

end Sys2Proof.Machine
end

