-- ==== Sys2Proof/Machine/ReadPort.lean ====
section
/-! DEFINITION. The read port (spec/20_memory.md R52 to R55, R58) and the response views (10_state.md R35). -/

namespace Sys2Proof.Machine

/-- A response view (R35): its value while a response is parsed or valid, 0x00 otherwise. -/
def State.view (s : State) (b : Byte) : Byte :=
  match s.rspState with
  | .none => 0x00#8
  | .parsed => b
  | .valid => b

/-- RSP_ADDR (R35). -/
def State.rspAddr (s : State) : Byte := s.view (byteAt s.rx 0)

/-- RSP_FUNC (R35). -/
def State.rspFunc (s : State) : Byte := s.view (byteAt s.rx 1)

/-- VAL[i] (R35): 0x00 at or above VSIZE. -/
def State.val (s : State) (i : Nat) : Byte :=
  if i < s.vsize.toNat then s.view (byteAt s.rx (2 + i)) else 0x00#8

/-- RSP_CRC_LO (R35). -/
def State.rspCrcLo (s : State) : Byte := s.view (byteAt s.rx (s.explen - 2))

/-- RSP_CRC_HI (R35). -/
def State.rspCrcHi (s : State) : Byte := s.view (byteAt s.rx (s.explen - 1))

/-- The register region 0x000 to 0x0FF of the read map (R52); reserved addresses read 0x00 (R55). -/
def State.readRegister (s : State) : Nat → Byte
  | 0x000 => s.status
  | 0x001 => s.result.code
  | 0x002 => s.detail
  | 0x003 => s.flags
  | 0x004 => s.faultCode.code
  | 0x005 => loByte s.crc
  | 0x006 => hiByte s.crc
  | 0x007 => s.reqAddr
  | 0x008 => s.reqFunc
  | 0x009 => lenByte s.plen
  | 0x00A => loByte (lenWord s.txlen)
  | 0x00B => hiByte (lenWord s.txlen)
  | 0x00C => s.vsize
  | 0x00D => loByte (lenWord s.explen)
  | 0x00E => hiByte (lenWord s.explen)
  | 0x00F => loByte (lenWord s.rxlen)
  | 0x010 => hiByte (lenWord s.rxlen)
  | 0x011 => s.rspAddr
  | 0x012 => s.rspFunc
  | 0x013 => s.rspCrcLo
  | 0x014 => s.rspCrcHi
  | _ => 0x00#8

/-- `ReadPort(a)` (R52): the register region, the windows of PAYLOAD, TX, RX and VAL, and 0x00 elsewhere. A read has no
side effect (R53): it is a function of the state. -/
def readPort (s : State) (a : ReadAddr) : Byte :=
  let n := a.toNat
  if n < 0x100 then s.readRegister n
  else if n < 0x200 then byteAt s.payload (n - 0x100)
  else if n < 0x300 then byteAt s.tx (n - 0x200)
  else if n < 0x400 then byteAt s.rx (n - 0x300)
  else if n < 0x500 then s.val (n - 0x400)
  else 0x00#8

/-- The named addresses of R52, for READ (30_encoding.md R76). -/
inductive ReadName where
  | STATUS | RESULT | DETAIL | FLAGS | FAULT_CODE | CRC_LO | CRC_HI | REQ_ADDR | REQ_FUNC | PLEN
  | TXLEN_LO | TXLEN_HI | VSIZE | EXPLEN_LO | EXPLEN_HI | RXLEN_LO | RXLEN_HI
  | RSP_ADDR | RSP_FUNC | RSP_CRC_LO | RSP_CRC_HI
  | PAYLOAD (i : Byte) | TX (i : Byte) | RX (i : Byte) | VAL (i : Byte)
  deriving DecidableEq, Repr

/-- The address of a name (R52). -/
def ReadName.addr : ReadName → ReadAddr
  | .STATUS => 0x000#12
  | .RESULT => 0x001#12
  | .DETAIL => 0x002#12
  | .FLAGS => 0x003#12
  | .FAULT_CODE => 0x004#12
  | .CRC_LO => 0x005#12
  | .CRC_HI => 0x006#12
  | .REQ_ADDR => 0x007#12
  | .REQ_FUNC => 0x008#12
  | .PLEN => 0x009#12
  | .TXLEN_LO => 0x00A#12
  | .TXLEN_HI => 0x00B#12
  | .VSIZE => 0x00C#12
  | .EXPLEN_LO => 0x00D#12
  | .EXPLEN_HI => 0x00E#12
  | .RXLEN_LO => 0x00F#12
  | .RXLEN_HI => 0x010#12
  | .RSP_ADDR => 0x011#12
  | .RSP_FUNC => 0x012#12
  | .RSP_CRC_LO => 0x013#12
  | .RSP_CRC_HI => 0x014#12
  | .PAYLOAD i => 0x1#4 ++ i
  | .TX i => 0x2#4 ++ i
  | .RX i => 0x3#4 ++ i
  | .VAL i => 0x4#4 ++ i

end Sys2Proof.Machine
end

