-- ==== Sys2Proof/Machine/Call.lean ====
section
/-! DEFINITION. The value the source's call returns, read from the block once an exchange has ended (spec/43_session.md
R161, R168). -/

namespace Sys2Proof.Machine

/-- What the source's `sendRequest` returns or raises (R161). The value is the raw bytes: decoding is the host's
(00_scope.md R5(c)). -/
inductive CallReturn where
  | response (slaveAddress functionCode : Byte) (value : List Byte)
  | noResponse
  | invalidArgument
  | invalidState
  | malformedResponse
  | dataCorrupted
  | mismatchData (expected : Byte)
  deriving DecidableEq, Repr

/-- `VAL[0..VSIZE-1]` (10_state.md R35). -/
def State.valBytes (s : State) : List Byte := (List.range s.vsize.toNat).map s.val

/-- The call's outcome (R161). An exchange has not ended while BUSY = 1 nor when FAULT = 1 (R168), and RESULT = NONE is
no outcome yet (60_exceptions.md R200). R161's table has no line for INVALID_ARGUMENT, which a setter of the call raises
before the exchange (41_request.md R129): it is returned under its own name (DEDUCED, log entry 11). -/
def State.callReturn (s : State) : Option CallReturn :=
  if s.busy || s.fault then Option.none
  else match s.result with
    | .none => Option.none
    | .ok => some (.response s.rspAddr s.rspFunc s.valBytes)
    | .noResponse => some .noResponse
    | .invalidArgument => some .invalidArgument
    | .invalidState => some .invalidState
    | .malformedResponse => some .malformedResponse
    | .dataCorrupted => some .dataCorrupted
    | .mismatchAddress => some (.mismatchData s.detail)
    | .mismatchFunction => some (.mismatchData s.detail)

end Sys2Proof.Machine
end

