-- ==== Sys2Proof/Machine/Crc.lean ====
section
/-! DEFINITION. The CRC family (spec/40_crc.md R102, R103): enabled also while BUSY, never writing RESULT or DETAIL. -/

namespace Sys2Proof.Machine

/-- CRC_INIT (R102). -/
def execCrcInit (s : State) : Host.Outcome State Fault Refusal :=
  whenNotFaulted s fun s => { s with crc := Config.crcInit }

/-- CRC_BYTE b (R103). -/
def execCrcByte (b : Byte) (s : State) : Host.Outcome State Fault Refusal :=
  whenNotFaulted s fun s => { s with crc := crcStep s.crc b }

end Sys2Proof.Machine
end

