-- ==== Sys2Proof/Machine/Request.lean ====
section
/-! DEFINITION. The request family (spec/41_request.md R120 to R128). -/

namespace Sys2Proof.Machine

/-- REQ_CLEAR (R122). -/
def execReqClear (s : State) : Host.Outcome State Fault Refusal :=
  whenIdle s fun s =>
    { s with
      reqAddr := 0x00#8, reqFunc := 0x00#8,
      addrSet := false, funcSet := false, paySet := false,
      payload := [] }.finish .ok 0x00#8

/-- REQ_ADDR a (R123). -/
def execReqAddr (a : Byte) (s : State) : Host.Outcome State Fault Refusal :=
  whenIdle s fun s =>
    if addrValid a then { s with reqAddr := a, addrSet := true }.finish .ok 0x00#8
    else s.finish .invalidArgument a

/-- REQ_FUNC f (R124). -/
def execReqFunc (f : Byte) (s : State) : Host.Outcome State Fault Refusal :=
  whenIdle s fun s =>
    if funcValid f then { s with reqFunc := f, funcSet := true }.finish .ok 0x00#8
    else s.finish .invalidArgument f

/-- REQ_PAYLOAD_BEGIN (R125). -/
def execReqPayloadBegin (s : State) : Host.Outcome State Fault Refusal :=
  whenIdle s fun s => { s with payload := [], paySet := true }.finish .ok 0x00#8

/-- REQ_PAYLOAD_BYTE b (R126): payload not begun before capacity (60_exceptions.md R207(d)). -/
def execReqPayloadByte (b : Byte) (s : State) : Host.Outcome State Fault Refusal :=
  whenIdle s fun s =>
    if !s.paySet then s.finish .invalidState 0x04#8
    else if s.plen = Config.maxPay then s.finish .invalidArgument b
    else { s with payload := s.payload ++ [b] }.finish .ok 0x00#8

/-- REQ_BUILD (R128): all missing fields are reported together (60_exceptions.md R207(d)). -/
def execReqBuild (s : State) : Host.Outcome State Fault Refusal :=
  whenIdle s fun s =>
    if s.missing ≠ 0x00#8 then s.finish .invalidState s.missing
    else s.storeFrame.finish .ok 0x00#8

end Sys2Proof.Machine
end

