-- ==== Sys2Proof/Machine/Response.lean ====
section
/-! DEFINITION. The response family (spec/42_response.md R140 to R147). -/

namespace Sys2Proof.Machine

/-- RSP_SETSIZE n (R140). -/
def execRspSetsize (n : Byte) (s : State) : Host.Outcome State Fault Refusal :=
  whenIdle s fun s =>
    if sizeValid n then ({ s with vsize := n }.emptyRx).finish .ok 0x00#8
    else s.finish .invalidArgument n

/-- RSP_CLEAR (R141). -/
def execRspClear (s : State) : Host.Outcome State Fault Refusal :=
  whenIdle s fun s => s.emptyRx.finish .ok 0x00#8

/-- RSP_BYTE b (R142): new bytes void any earlier parse. -/
def execRspByte (b : Byte) (s : State) : Host.Outcome State Fault Refusal :=
  whenIdle s fun s =>
    if s.rxlen = s.explen then s.finish .invalidArgument b
    else { s with rx := s.rx ++ [b], rspState := .none }.finish .ok 0x00#8

/-- RSP_PARSE (R143): structural only, no checksum and no echo check. -/
def execRspParse (s : State) : Host.Outcome State Fault Refusal :=
  whenIdle s fun s =>
    if s.rxlen < s.explen then { s with rspState := .none }.finish .malformedResponse (lenByte s.rxlen)
    else { s with rspState := .parsed }.finish .ok 0x00#8

/-- RSP_VALIDATE (R145): both missing conditions are reported together, and then nothing else changes. -/
def execRspValidate (s : State) : Host.Outcome State Fault Refusal :=
  whenIdle s fun s =>
    if s.validateMissing ≠ 0x00#8 then s.finish .invalidState s.validateMissing
    else s.conclude

end Sys2Proof.Machine
end

