-- ==== Sys2Proof/Machine/Session.lean ====
section
/-! DEFINITION. The session family (spec/43_session.md R160, R162). -/

namespace Sys2Proof.Machine

/-- SES_TRANSACT (R160): build, empty RX, RESULT NONE, BUSY, and hand the frame to the transport. -/
def execSesTransact (s : State) : Host.Outcome State Fault Refusal :=
  whenIdle s fun s =>
    if s.transactMissing ≠ 0x00#8 then s.finish .invalidState s.transactMissing
    else
      let t := s.storeFrame.emptyRx.finish .none 0x00#8
      { t with busy := true }.emitTransmit s.builderFrame s.explen

/-- SES_RELEASE (R162). -/
def execSesRelease (s : State) : Host.Outcome State Fault Refusal :=
  whenIdle s fun s => { s with xport := false }.finish .ok 0x00#8

end Sys2Proof.Machine
end

