-- ==== Sys2Proof/Machine/Dispatch.lean ====
section
/-! DEFINITION. One arm per command of MBRTU (spec/30_encoding.md R72). -/

namespace Sys2Proof.Machine

def exec (i : Instr) (s : State) : Host.Outcome State Fault Refusal :=
  match i with
  | .crcInit => Sys2Proof.Machine.execCrcInit s
  | .crcByte b => Sys2Proof.Machine.execCrcByte b s
  | .reqClear => Sys2Proof.Machine.execReqClear s
  | .reqAddr a => Sys2Proof.Machine.execReqAddr a s
  | .reqFunc f => Sys2Proof.Machine.execReqFunc f s
  | .reqPayloadBegin => Sys2Proof.Machine.execReqPayloadBegin s
  | .reqPayloadByte b => Sys2Proof.Machine.execReqPayloadByte b s
  | .reqBuild => Sys2Proof.Machine.execReqBuild s
  | .rspSetsize n => Sys2Proof.Machine.execRspSetsize n s
  | .rspClear => Sys2Proof.Machine.execRspClear s
  | .rspByte b => Sys2Proof.Machine.execRspByte b s
  | .rspParse => Sys2Proof.Machine.execRspParse s
  | .rspValidate => Sys2Proof.Machine.execRspValidate s
  | .sesTransact => Sys2Proof.Machine.execSesTransact s
  | .sesRelease => Sys2Proof.Machine.execSesRelease s

end Sys2Proof.Machine
end

