-- ==== Sys2Proof/Machine/Transport.lean ====
section
/-! DEFINITION. The transport's answers as the block takes them (spec/43_session.md R163 to R167). -/

namespace Sys2Proof.Machine

/-- `NoResponse` (R165, R167(b)). With FAULT = 1 it only clears PENDING. -/
def takeNoResponse (s : State) : State :=
  match s.pending with
  | Option.none => s.raiseFirst .transportUnsolicited
  | some _ =>
    let s := { s with pending := Option.none }
    if s.fault then s
    else { s with busy := false }.finish .noResponse 0x00#8

/-- `Deliver(bytes)` (R166, R167), in the order of 60_exceptions.md R207(c): overrun, short length, validation. With
FAULT = 1 it only clears PENDING. -/
def takeDelivery (bytes : List Byte) (s : State) : State :=
  match s.pending with
  | Option.none => s.raiseFirst .transportUnsolicited
  | some n =>
    let s := { s with pending := Option.none }
    if s.fault then s
    else if n < bytes.length then s.raiseFault .transportOverrun
    else
      let s := { s with busy := false, rx := bytes }
      if bytes.length < s.explen then
        { s with rspState := .none }.finish .malformedResponse (lenByte bytes.length)
      else s.conclude

/-- One answer of the transport, as one step of the block (R164). -/
def takeAnswer (a : Answer) (s : State) : State :=
  match a with
  | .noResponse => takeNoResponse s
  | .deliver bytes => takeDelivery bytes s

/-- Whether an answer keeps the transport's contract (R163, R164; 90_conflicts.md C2): only while PENDING is true, and a
delivery of exactly the expected number of bytes. -/
def answerAbides (a : Answer) (s : State) : Bool :=
  match a, s.pending with
  | _, Option.none => false
  | .noResponse, some _ => true
  | .deliver bytes, some n => decide (bytes.length = n)

end Sys2Proof.Machine
end

