-- ==== Sys2Proof/Machine/Agents.lean ====
section
/-! DEFINITION. One turn of each agent: the host's actions on the two ports, the transport's answer, the platform's reset
(spec/00_scope.md R10, R11; 60_exceptions.md R204; 70_reset_and_hazards.md R240), and the host-side pseudo-operations and
macros (30_encoding.md R76, R77). -/

namespace Sys2Proof.Machine

/-- A command write (R70, R204): a word that spells no command raises ILLEGAL_COMMAND, unless the block is already
faulted; the other checks of R204 stand in each command's meaning. -/
def writeCommand (w : Word) (s : State) : Host.Outcome State Fault Refusal :=
  match decode w with
  | .ok i => exec i s
  | .error _ => .next (s.raiseFirst .illegalCommand)

/-- WAIT repeats its read of STATUS while bit 0, BUSY, is 1 (R76). -/
def waitAgain (s : State) : Bool := (readPort s ReadName.STATUS.addr).getLsbD 0

/-- One action of the host. A read changes nothing (R53); the byte the host gets is `readPort s a`. WAIT reads STATUS
once a turn and stays the next action while BUSY is 1 (log entry 3). A host with nothing left to do does nothing. -/
def hostTurn (s : State) : Host.Outcome State Fault Refusal :=
  match s.host with
  | [] => .next s
  | .write w :: rest => writeCommand w { s with host := rest }
  | .read _ :: rest => .next { s with host := rest }
  | .wait :: rest => .next (if waitAgain s then s else { s with host := rest })

/-- One turn of an agent (R11, R240). -/
def takeTurn (t : Turn) (s : State) : Host.Outcome State Fault Refusal :=
  match t with
  | .host => hostTurn s
  | .answer a => .next (takeAnswer a s)
  | .reset => .next s.resetBlock

/-- READ name (R76). -/
def readOf (n : ReadName) : HostAction := .read n.addr

/-- A command as the host writes it (R76). -/
def writeOf (i : Instr) : HostAction := .write (encode i)

/-- Macro `CRC_BYTES b0, ..., bk` (R77). -/
def macroCrcBytes (bs : List Byte) : List Instr := .crcInit :: bs.map .crcByte

/-- Macro `REQ_PAYLOAD b0, ..., bk` (R77). -/
def macroReqPayload (bs : List Byte) : List Instr := .reqPayloadBegin :: bs.map .reqPayloadByte

/-- Macro `RSP_BYTES b0, ..., bk` (R77). -/
def macroRspBytes (bs : List Byte) : List Instr := .rspClear :: bs.map .rspByte

/-- Macro `SEND a, f, b0..bk` (R77; the source's `sendRequest`, 41_request.md R129). -/
def macroSend (a f : Byte) (bs : List Byte) : List Instr :=
  [.reqClear, .reqAddr a, .reqFunc f] ++ macroReqPayload bs ++ [.sesTransact]

/-- Macro `SEND_SYNC a, f, b0..bk` (R77): SEND, then WAIT. -/
def macroSendSync (a f : Byte) (bs : List Byte) : List HostAction :=
  (macroSend a f bs).map writeOf ++ [.wait]

/-- Several commands in the order written (20_memory.md R61), stopping where one stops. -/
def runCommands : List Instr → State → Host.Outcome State Fault Refusal
  | [], s => .next s
  | i :: is, s =>
    match exec i s with
    | .next t => runCommands is t
    | .fault r => .fault r
    | .refused r => .refused r

end Sys2Proof.Machine
end

