-- ==== Sys2Proof/Machine/Step.lean ====
section
/-! DEFINITION. One step of the machine, and where the host's next command word stands. -/

namespace Sys2Proof.Machine

/-- One step: the agent whose turn is next takes it (spec/00_scope.md R10, R11). Where no turn is left nobody moves and
the block waits (70_reset_and_hazards.md R240 "after reset the block waits for a command"; log entry 1). -/
def step (s : State) : Host.Outcome State Fault Refusal :=
  match s.turns with
  | [] => .next s
  | t :: ts => takeTurn t { s with turns := ts }

/-- The state in which the very next step is the host writing this word to the command port (log entry 2). -/
def State.withFetchWord (s : State) (nbits w : Nat) : State :=
  { s with
    host := .write (BitVec.ofNat 16 (w % 2 ^ nbits)) :: s.host
    turns := .host :: s.turns }

end Sys2Proof.Machine
end

