-- ==== Sys2Proof/Safety.lean ====
section
/-! DEFINITION. The terms claims are stated in: the families of commands, the invariants of the state
(spec/10_state.md R22, R24, R25, R27, R28, R34; 60_exceptions.md R201), a well-formed frame (R28), and the end of a run
(70_reset_and_hazards.md R247). -/

namespace Sys2Proof.Machine

/-- The four families of R72. -/
inductive Family where
  | crc | request | response | session
  deriving DecidableEq, Repr

/-- The family of a command (30_encoding.md R72). -/
def family : Instr → Family
  | .crcInit | .crcByte _ => .crc
  | .reqClear | .reqAddr _ | .reqFunc _ | .reqPayloadBegin | .reqPayloadByte _ | .reqBuild => .request
  | .rspSetsize _ | .rspClear | .rspByte _ | .rspParse | .rspValidate => .response
  | .sesTransact | .sesRelease => .session

/-- The next step is the host writing this word to the command port. -/
abbrev State.writesNext (s : State) (w : Word) : Prop :=
  s.turns.head? = some .host ∧ s.host.head? = some (.write w)

/-- The next step is the host writing the word of this command. -/
abbrev State.runsNext (s : State) (i : Instr) : Prop :=
  s.turns.head? = some .host ∧ ∃ w, s.host.head? = some (.write w) ∧ decode w = .ok i

/-- The next step is a reset. -/
abbrev State.resetsNext (s : State) : Prop := s.turns.head? = some .reset

/-- The last two bytes of a byte sequence are the checksum of all before them (10_state.md R28, 90_conflicts.md C1). -/
abbrev checksumGood (frame : List Byte) : Prop :=
  frame = frame.take (frame.length - 2) ++ crcBytes (frame.take (frame.length - 2))

/-- A frame as a build leaves it (R28): 4 to 256 bytes, a valid address, a valid function code, a right checksum. -/
abbrev requestFrame (frame : List Byte) : Prop :=
  4 ≤ frame.length ∧ frame.length ≤ Config.frameMax ∧ addrValid (byteAt frame 0) = true
    ∧ funcValid (byteAt frame 1) = true ∧ checksumGood frame

/-- The builder's fields (R22, R27(a)). -/
abbrev State.BuilderInv (s : State) : Prop :=
  addrValid s.reqAddr = true ∧ (s.addrSet = false → s.reqAddr = 0x00#8)
    ∧ (s.funcSet = true → funcValid s.reqFunc = true) ∧ (s.funcSet = false → s.reqFunc = 0x00#8)
    ∧ s.plen ≤ Config.maxPay ∧ (s.paySet = false → s.payload = [])

/-- The response registers (R24, R25, R27(b), R27(c)). A valid response keeps a right checksum; the request it was
compared with may since have been rebuilt. -/
abbrev State.ResponseInv (s : State) : Prop :=
  sizeValid s.vsize = true ∧ s.rxlen ≤ s.explen
    ∧ (s.rspState ≠ .none → s.rxlen = s.explen)
    ∧ (s.rspState = .valid → checksumGood s.rx ∧ s.reqBuilt = true)

/-- The built request (R28). -/
abbrev State.FrameInv (s : State) : Prop :=
  (s.reqBuilt = false ↔ s.tx = []) ∧ (s.reqBuilt = true → requestFrame s.tx)

/-- The exchange (R33, R34, R36). While BUSY a request is pending, unless the block has faulted, where an answer of the
transport clears PENDING and BUSY stays (43_session.md R165, R167; log entry 6). -/
abbrev State.ExchangeInv (s : State) : Prop :=
  (s.busy = true → s.reqBuilt = true ∧ s.rx = [] ∧ s.rspState = .none ∧ s.result = .none ∧ s.detail = 0x00#8
      ∧ s.xport = true ∧ s.txLog.getLast? = some ⟨s.tx, s.explen⟩)
    ∧ (s.busy = true → s.fault = false → s.pending = some s.explen)
    ∧ (s.pending ≠ Option.none → s.busy = true ∧ s.pending = some s.explen)

/-- The fault registers: a code other than 0x00 exactly while FAULT = 1 (60_exceptions.md R205, R206). -/
abbrev State.FaultInv (s : State) : Prop := s.fault = true ↔ s.faultCode ≠ .none

/-- Every frame on record was a built request, with an expected length of 4 to 256 (R24, R36). -/
abbrev State.LogInv (s : State) : Prop :=
  ∀ e ∈ s.txLog, requestFrame e.frame ∧ 4 ≤ e.expLen ∧ e.expLen ≤ Config.frameMax

/-- The invariant of the whole state: the groups above together. -/
structure State.Inv (s : State) : Prop where
  builder : s.BuilderInv
  response : s.ResponseInv
  frame : s.FrameInv
  exchange : s.ExchangeInv
  faults : s.FaultInv
  log : s.LogInv

/-- DETAIL as R201 gives it per result code, and no response kept after a failed or absent one (60_exceptions.md R203,
43_session.md R168). -/
abbrev State.DetailInv (s : State) : Prop :=
  (s.result = .none ∨ s.result = .ok ∨ s.result = .noResponse ∨ s.result = .dataCorrupted → s.detail = 0x00#8)
    ∧ (s.result = .invalidState → s.detail &&& 0x88#8 = 0x00#8 ∧ s.detail ≠ 0x00#8)
    ∧ (s.result = .malformedResponse → s.detail = lenByte s.rxlen ∧ s.rxlen < s.explen)
    ∧ (s.result = .mismatchAddress → s.detail = byteAt s.tx 0)
    ∧ (s.result = .mismatchFunction → s.detail = byteAt s.tx 1)
    ∧ (s.result = .noResponse ∨ s.result = .malformedResponse ∨ s.result = .dataCorrupted
        ∨ s.result = .mismatchAddress ∨ s.result = .mismatchFunction → s.rspState = .none)

/-- Whether a host action writes a command word. -/
def HostAction.isWrite : HostAction → Bool
  | .write _ => true
  | .read _ => false
  | .wait => false

/-- A run has ended successfully (R247): no command left to write, no exchange in flight, no request pending, no fault. -/
abbrev State.ended (s : State) : Prop :=
  s.host.all (fun a => !a.isWrite) = true ∧ s.busy = false ∧ s.pending = Option.none ∧ s.fault = false

end Sys2Proof.Machine
end

