-- ==== Sys2Proof/Certificates/Slice0/Obligations.lean ====
section
/-! DEFINITION. The statements about MBRTU, one `def Obligations.<Name> : Prop` each. A next state written as a record
update says both what changes and that every other element stays. -/

open Sys2Proof Sys2Proof.Machine

/-! ## Encoding -/

/-- R72: the fifteen rows of the opcode map, read off as words, and the match and mask pairs: a word is in a command's
row exactly when it decodes to that command. The command's family is told by the opcode's high digit. -/
def Obligations.OpcodeMapRowsAreTheDecoder : Prop :=
  (∀ b : Byte,
    decode 0x1000#16 = .ok .crcInit ∧ decode (0x11#8 ++ b) = .ok (.crcByte b)
    ∧ decode 0x2000#16 = .ok .reqClear ∧ decode (0x21#8 ++ b) = .ok (.reqAddr b)
    ∧ decode (0x22#8 ++ b) = .ok (.reqFunc b) ∧ decode 0x2300#16 = .ok .reqPayloadBegin
    ∧ decode (0x24#8 ++ b) = .ok (.reqPayloadByte b) ∧ decode 0x2500#16 = .ok .reqBuild
    ∧ decode (0x30#8 ++ b) = .ok (.rspSetsize b) ∧ decode 0x3100#16 = .ok .rspClear
    ∧ decode (0x32#8 ++ b) = .ok (.rspByte b) ∧ decode 0x3300#16 = .ok .rspParse
    ∧ decode 0x3400#16 = .ok .rspValidate ∧ decode 0x4000#16 = .ok .sesTransact
    ∧ decode 0x4100#16 = .ok .sesRelease)
  ∧ (∀ (m : Mnemonic) (w : Word),
      (w &&& (if m.takesOperand then 0xFF00#16 else 0xFFFF#16) = BitVec.zeroExtend 16 m.opcode <<< 8)
        ↔ ∃ i, decode w = .ok i ∧ i.line.mnemonic = m)
  ∧ ∀ (w : Word) (i : Instr), decode w = .ok i →
      family i = (match w.toNat / 4096 with
        | 1 => Family.crc
        | 2 => Family.request
        | 3 => Family.response
        | _ => Family.session)

/-- A few words written out bit by bit decode to the commands they stand for (R70, R72), and a few to none (R73). -/
def Obligations.SampleWordsDecodeAsWritten : Prop :=
  decode 0b0001000000000000#16 = .ok .crcInit
    ∧ decode 0b0001000101101011#16 = .ok (.crcByte 0x6B#8)
    ∧ decode 0b0010000111110111#16 = .ok (.reqAddr 0xF7#8)
    ∧ decode 0b0011000011111100#16 = .ok (.rspSetsize 0xFC#8)
    ∧ decode 0b0100000000000000#16 = .ok .sesTransact
    ∧ decode 0b0100000000000001#16 = .error (.operandNotZero 0x40#8 0x01#8)
    ∧ decode 0b0000000000000000#16 = .error (.reservedOpcode 0x00#8)

/-- Decode and encode agree in both directions, for every command and every word: no bit of an encoding is dropped, and
each command has one word. -/
def Obligations.DecodeEncodeAgree : Prop :=
  (∀ i : Instr, decode (encode i) = .ok i) ∧ (∀ (w : Word) (i : Instr), decode w = .ok i → encode i = w)

/-- R73: which words are illegal, and that writing one raises ILLEGAL_COMMAND and changes nothing else. -/
def Obligations.IllegalWordsFault : Prop :=
  ∀ w : Word,
    let op := (w.toNat / 256)
    let imm := (w.toNat % 256)
    let illegal : Prop :=
      (op ≤ 0x0F ∨ (0x12 ≤ op ∧ op ≤ 0x1F) ∨ (0x26 ≤ op ∧ op ≤ 0x2F) ∨ (0x35 ≤ op ∧ op ≤ 0x3F) ∨ 0x42 ≤ op)
        ∨ ((op = 0x10 ∨ op = 0x20 ∨ op = 0x23 ∨ op = 0x25 ∨ op = 0x31 ∨ op = 0x33 ∨ op = 0x34 ∨ op = 0x40 ∨ op = 0x41)
            ∧ imm ≠ 0)
    (illegal ∨ ∃ i, decode w = .ok i) ∧ (illegal ↔ ∃ e, decode w = .error e)
      ∧ (illegal → ∀ s : State, s.fault = false →
          writeCommand w s = .next { s with fault := true, faultCode := .illegalCommand })

/-- The line of every command is well formed and assembles to the command's word; a line is well formed exactly when it
has an operand up to 255 where the command takes one and none where it takes none; every well-formed line becomes a word
the decoder reads back as the command of that line (30_encoding.md sections 1 and 4). That an ill-formed line becomes no
word is the model's own choice, of which the spec says nothing (log entry 14). -/
def Obligations.AssemblerAgreesWithDecoder : Prop :=
  (∀ i : Instr, i.line.wellFormed = true ∧ assemble i.line = some (encode i))
  ∧ ∀ l : AsmLine,
    (l.wellFormed = true ↔
      (l.mnemonic.takesOperand = true ∧ ∃ n, n ≤ 255 ∧ l.imm = some n) ∨ (l.mnemonic.takesOperand = false ∧ l.imm = none))
      ∧ (l.wellFormed = true → ∃ i w, assemble l = some w ∧ decode w = .ok i ∧ i.line = l)
      ∧ (l.wellFormed = false → assemble l = none)

/-! ## Steps, precedence, faults -/

/-- A step in which the host writes a word that decodes runs exactly that command, on the state with the turn and the
action taken off their lists. The two lists are the model's own (log entry 1). -/
def Obligations.StepRunsDecodedCommand : Prop :=
  ∀ (s : State) (w : Word) (i : Instr) (ts : List Turn) (rest : List HostAction),
    s.turns = .host :: ts → s.host = .write w :: rest → decode w = .ok i →
      step s = exec i { s with turns := ts, host := rest }

/-- R204: the order of the checks before a command's own rule: an existing fault, an illegal word, use during an
exchange by a family other than CRC, and then the command. -/
def Obligations.CommandCheckOrder : Prop :=
  ∀ (w : Word) (s : State),
    (s.fault = true → writeCommand w s = .next s)
    ∧ (s.fault = false → (∀ i, decode w ≠ .ok i) →
        writeCommand w s = .next { s with fault := true, faultCode := .illegalCommand })
    ∧ (∀ i, decode w = .ok i → s.fault = false → s.busy = true → family i ≠ .crc →
        writeCommand w s = .next { s with fault := true, faultCode := .concurrentUse })
    ∧ (∀ i, decode w = .ok i → s.fault = false → (s.busy = false ∨ family i = .crc) →
        writeCommand w s = exec i s ∧ ∃ t, exec i s = .next t ∧ t.fault = false)

/-- R32: once FAULT = 1 no step but a reset changes any element of the block. Beside it: the transport's answer may clear
PENDING, nothing is transmitted, and every read answers as before. -/
def Obligations.FaultedBlockIsQuiescent : Prop :=
  ∀ s t : State, s.fault = true → ¬ s.resetsNext → step s = .next t →
    t = { s with pending := t.pending, host := t.host, turns := t.turns }
      ∧ (t.pending = s.pending ∨ t.pending = none)
      ∧ ∀ a, readPort t a = readPort s a

/-- No step of the machine stops it: in every state, whoever moves, there is a next state (log entry 10). -/
def Obligations.EveryStepGoesOn : Prop :=
  (∀ s : State, ∃ t, step s = .next t) ∧ ∀ (i : Instr) (s : State), ∃ t, exec i s = .next t

/-- A fault appears only as one of the four causes of R206, each with its code in FAULT_CODE, and the step that raises it
changes nothing else in the block. -/
def Obligations.FaultsHaveTheirCauses : Prop :=
  ∀ s t : State, s.fault = false → step s = .next t → t.fault = true →
    (∃ w, s.writesNext w ∧ (∀ i, decode w ≠ .ok i)
        ∧ t = { s with fault := true, faultCode := .illegalCommand, host := t.host, turns := t.turns }
        ∧ readPort t 0x004#12 = 0x01#8)
    ∨ (∃ i, s.runsNext i ∧ family i ≠ .crc ∧ s.busy = true
        ∧ t = { s with fault := true, faultCode := .concurrentUse, host := t.host, turns := t.turns }
        ∧ readPort t 0x004#12 = 0x02#8)
    ∨ (∃ bytes n, s.turns.head? = some (.answer (.deliver bytes)) ∧ s.pending = some n ∧ n < bytes.length
        ∧ t = { s with fault := true, faultCode := .transportOverrun, pending := none, turns := t.turns }
        ∧ readPort t 0x004#12 = 0x03#8)
    ∨ (∃ a, s.turns.head? = some (.answer a) ∧ s.pending = none
        ∧ t = { s with fault := true, faultCode := .transportUnsolicited, turns := t.turns }
        ∧ readPort t 0x004#12 = 0x04#8)

/-! ## CRC family -/

/-- R102 and R103: CRC_INIT and CRC_BYTE, in every state without a fault, BUSY or not; nothing but CRC changes; with a
fault nothing happens; CRC_INIT with an operand is illegal. -/
def Obligations.CrcCommandsUpdateTheAccumulator : Prop :=
  encode .crcInit = 0x1000#16
  ∧ (∀ b : Byte, encode (.crcByte b) = 0x11#8 ++ b)
  ∧ ∀ (s : State) (b : Byte),
    (s.fault = false → exec .crcInit s = .next { s with crc := 0xFFFF#16 })
    ∧ (s.fault = false → exec (.crcByte b) s = .next { s with crc := crcStep s.crc b })
    ∧ (s.fault = true → exec .crcInit s = .next s ∧ exec (.crcByte b) s = .next s)
    ∧ (s.fault = false → b ≠ 0x00#8 →
        writeCommand (0x10#8 ++ b) s = .next { s with fault := true, faultCode := .illegalCommand })

/-- CRC_INIT and one CRC_BYTE per byte leave the checksum of the bytes in CRC, readable low byte at 0x005 and high byte
at 0x006, and change nothing else (40_crc.md section 1, realisation of `compute`). -/
def Obligations.CrcStreamComputesChecksum : Prop :=
  ∀ (s : State) (bytes : List Byte), s.fault = false →
    ∃ t, runCommands (macroCrcBytes bytes) s = .next t ∧ t = { s with crc := crc16 bytes }
      ∧ [readPort t 0x005#12, readPort t 0x006#12] = crcBytes bytes

/-- The checksum step is eight turns of the loop of R100 on the register with the byte added at its low end, the
polynomial being 0xA001; two steps of one bit each, 0x0000 with 0x80 and V-STEP-4; the step is linear, it is one-to-one in
the register and, for a fixed register, one-to-one in the byte. (The loop is general knowledge in the spec's own marking,
log entry 13.) -/
def Obligations.CrcStepIsLinearAndInjective : Prop :=
  (∀ (c : Word) (b : Byte), crcStep c b =
    (fun r : Word => if r.getLsbD 0 = true then (r >>> 1) ^^^ 0xA001#16 else r >>> 1)^[8] (c ^^^ BitVec.zeroExtend 16 b))
  ∧ crcStep 0x0000#16 0x80#8 = 0xA001#16 ∧ crcStep 0x0001#16 0x00#8 = 0xC0C1#16
  ∧ (∀ (c d : Word) (a b : Byte), crcStep (c ^^^ d) (a ^^^ b) = crcStep c a ^^^ crcStep d b)
  ∧ (∀ (c d : Word) (b : Byte), crcStep c b = crcStep d b → c = d)
  ∧ (∀ (c : Word) (a b : Byte), crcStep c a = crcStep c b → a = b)

/-- Self-check: appending the right checksum to any bytes makes the checksum of the whole zero, and running the whole
through CRC_INIT and CRC_BYTE leaves CRC = 0x0000. R105 says so and marks it as general knowledge, as the spec marks the
loop under it (log entry 13). -/
def Obligations.ChecksummedBytesLeaveZero : Prop :=
  ∀ bytes : List Byte, crc16 (bytes ++ crcBytes bytes) = 0x0000#16
    ∧ ∀ s : State, s.fault = false →
        runCommands (macroCrcBytes (bytes ++ crcBytes bytes)) s = .next { s with crc := 0x0000#16 }

/-- Every single-bit flip of a rightly checksummed response, in any byte of it, is found: RSP_VALIDATE and a delivery
finish DATA_CORRUPTED and no response is kept. That `crc16` finds every single-bit flip is general knowledge in R105's
own marking, as is the loop under it (log entry 13). -/
def Obligations.SingleBitFlipIsDataCorrupted : Prop :=
  ∀ (s : State) (body flipped : List Byte) (i k : Nat),
    body.length = s.vsize.toNat + 2 → i < body.length + 2 → k < 8 →
    flipped = (body ++ crcBytes body).set i (byteAt (body ++ crcBytes body) i ^^^ (0x01#8 <<< k)) →
    s.fault = false →
      (s.busy = false → s.reqBuilt = true → s.rspState = .parsed → s.rx = flipped →
        exec .rspValidate s = .next { s with rspState := .none, result := .dataCorrupted, detail := 0x00#8 })
      ∧ (s.pending = some (s.vsize.toNat + 4) →
        takeAnswer (.deliver flipped) s =
          { s with pending := none, busy := false, rx := flipped, rspState := .none, result := .dataCorrupted,
                   detail := 0x00#8 })

/-- CRC is written only by CRC_INIT, CRC_BYTE and reset: a step that is neither leaves it. -/
def Obligations.CrcWrittenOnlyByItsFamily : Prop :=
  ∀ s t : State, step s = .next t → ¬ s.resetsNext → t.crc ≠ s.crc →
    (s.runsNext .crcInit ∧ t.crc = 0xFFFF#16) ∨ ∃ b, s.runsNext (.crcByte b) ∧ t.crc = crcStep s.crc b

/-- No command of another family and no transport answer reads CRC: on two states that differ in CRC alone they do the
same and leave the difference as it was. -/
def Obligations.CrcIsIndependentOfTheRest : Prop :=
  (∀ (i : Instr) (s t : State) (c : Word), family i ≠ .crc → exec i s = .next t →
      exec i { s with crc := c } = .next { t with crc := c })
  ∧ ∀ (a : Answer) (s : State) (c : Word), takeAnswer a { s with crc := c } = { takeAnswer a s with crc := c }

/-- CRC commands and an answer the transport gives within its contract may be exchanged: the exchange ends the same
whichever comes first. -/
def Obligations.CrcCommandsCommuteWithAnswers : Prop :=
  ∀ (i : Instr) (a : Answer) (s : State), family i = .crc → answerAbides a s = true →
    ∃ t, exec i s = .next t ∧ exec i (takeAnswer a s) = .next (takeAnswer a t)

/-! ## Request family -/

/-- R122: REQ_CLEAR. -/
def Obligations.ReqClearEmptiesTheBuilder : Prop :=
  encode .reqClear = 0x2000#16
  ∧ ∀ s : State, s.fault = false →
    (s.busy = false → exec .reqClear s = .next
      { s with reqAddr := 0x00#8, reqFunc := 0x00#8, addrSet := false, funcSet := false, paySet := false,
               payload := [], result := .ok, detail := 0x00#8 })
    ∧ (s.busy = true → exec .reqClear s = .next { s with fault := true, faultCode := .concurrentUse })
    ∧ ∀ b : Byte, b ≠ 0x00#8 →
        writeCommand (0x20#8 ++ b) s = .next { s with fault := true, faultCode := .illegalCommand }

/-- R123: REQ_ADDR, both below and above the limit 247. -/
def Obligations.ReqAddrSetsOrRejects : Prop :=
  ∀ (s : State) (a : Byte), encode (.reqAddr a) = 0x21#8 ++ a ∧
    (s.fault = false →
      (s.busy = false → a.toNat ≤ 247 → exec (.reqAddr a) s = .next
        { s with reqAddr := a, addrSet := true, result := .ok, detail := 0x00#8 })
      ∧ (s.busy = false → 247 < a.toNat → exec (.reqAddr a) s = .next
        { s with result := .invalidArgument, detail := a })
      ∧ (s.busy = true → exec (.reqAddr a) s = .next { s with fault := true, faultCode := .concurrentUse }))

/-- R124: REQ_FUNC, within 1 to 127 and outside. -/
def Obligations.ReqFuncSetsOrRejects : Prop :=
  ∀ (s : State) (f : Byte), encode (.reqFunc f) = 0x22#8 ++ f ∧
    (s.fault = false →
      (s.busy = false → 1 ≤ f.toNat → f.toNat ≤ 127 → exec (.reqFunc f) s = .next
        { s with reqFunc := f, funcSet := true, result := .ok, detail := 0x00#8 })
      ∧ (s.busy = false → (f.toNat < 1 ∨ 127 < f.toNat) → exec (.reqFunc f) s = .next
        { s with result := .invalidArgument, detail := f })
      ∧ (s.busy = true → exec (.reqFunc f) s = .next { s with fault := true, faultCode := .concurrentUse }))

/-- R125: REQ_PAYLOAD_BEGIN. -/
def Obligations.ReqPayloadBeginStartsEmpty : Prop :=
  encode .reqPayloadBegin = 0x2300#16
  ∧ ∀ s : State, s.fault = false →
    (s.busy = false → exec .reqPayloadBegin s = .next
      { s with payload := [], paySet := true, result := .ok, detail := 0x00#8 })
    ∧ (s.busy = true → exec .reqPayloadBegin s = .next { s with fault := true, faultCode := .concurrentUse })
    ∧ ∀ b : Byte, b ≠ 0x00#8 →
        writeCommand (0x23#8 ++ b) s = .next { s with fault := true, faultCode := .illegalCommand }

/-- R126: REQ_PAYLOAD_BYTE: not begun, full at 252 bytes, and appended. -/
def Obligations.ReqPayloadByteAppendsOrRejects : Prop :=
  ∀ (s : State) (b : Byte), encode (.reqPayloadByte b) = 0x24#8 ++ b ∧
    (s.fault = false →
      (s.busy = false → s.paySet = false → exec (.reqPayloadByte b) s = .next
        { s with result := .invalidState, detail := 0x04#8 })
      ∧ (s.busy = false → s.paySet = true → s.payload.length = 252 → exec (.reqPayloadByte b) s = .next
        { s with result := .invalidArgument, detail := b })
      ∧ (s.busy = false → s.paySet = true → s.payload.length ≠ 252 → exec (.reqPayloadByte b) s = .next
        { s with payload := s.payload ++ [b], result := .ok, detail := 0x00#8 })
      ∧ (s.busy = true → exec (.reqPayloadByte b) s = .next { s with fault := true, faultCode := .concurrentUse }))

/-- R128: REQ_BUILD: the frame of the builder's fields goes to TX, or INVALID_STATE with one bit per field never set. -/
def Obligations.ReqBuildStoresTheFrame : Prop :=
  encode .reqBuild = 0x2500#16
  ∧ ∀ s : State, s.fault = false →
    (s.busy = false → s.addrSet = true → s.funcSet = true → s.paySet = true → exec .reqBuild s = .next
      { s with tx := buildFrame s.reqAddr s.reqFunc s.payload, reqBuilt := true, result := .ok, detail := 0x00#8 })
    ∧ (s.busy = false → ¬ (s.addrSet = true ∧ s.funcSet = true ∧ s.paySet = true) →
      ∃ m : Byte, exec .reqBuild s = .next { s with result := .invalidState, detail := m }
        ∧ m.getLsbD 0 = !s.addrSet ∧ m.getLsbD 1 = !s.funcSet ∧ m.getLsbD 2 = !s.paySet
        ∧ ∀ k, 3 ≤ k → m.getLsbD k = false)
    ∧ (s.busy = true → exec .reqBuild s = .next { s with fault := true, faultCode := .concurrentUse })
    ∧ ∀ b : Byte, b ≠ 0x00#8 →
        writeCommand (0x25#8 ++ b) s = .next { s with fault := true, faultCode := .illegalCommand }

/-- R121: a built frame is address, function, payload and the two checksum bytes, low byte first, over everything before
them; its length is 4 more than the payload's, and any bytes at all may be its payload. -/
def Obligations.BuiltFrameHasItsShape : Prop :=
  ∀ (a f : Byte) (p : List Byte),
    (buildFrame a f p).length = 4 + p.length
    ∧ (buildFrame a f p).take (2 + p.length) = a :: f :: p
    ∧ (buildFrame a f p)[2 + p.length]? = some ((crc16 (a :: f :: p)).extractLsb' 0 8)
    ∧ (buildFrame a f p)[3 + p.length]? = some ((crc16 (a :: f :: p)).extractLsb' 8 8)

/-- The frame of the request commands: the response registers, CRC, the session and the environment stay; TX changes only
in REQ_BUILD, which leaves every field of the builder; address, function, payload and their flags change only in the
commands that write them, and PAYLOAD only to an empty one or by the one byte appended; every read of VSIZE, EXPLEN, RXLEN,
the response views and the RX and VAL windows answers as before. -/
def Obligations.RequestCommandsFrame : Prop :=
  ∀ (i : Instr) (s t : State), family i = .request → exec i s = .next t →
    t = { s with reqAddr := t.reqAddr, reqFunc := t.reqFunc, addrSet := t.addrSet, funcSet := t.funcSet,
                 paySet := t.paySet, payload := t.payload, tx := t.tx, reqBuilt := t.reqBuilt, result := t.result,
                 detail := t.detail, fault := t.fault, faultCode := t.faultCode }
    ∧ (i ≠ .reqBuild → t.tx = s.tx ∧ t.reqBuilt = s.reqBuilt)
    ∧ (i = .reqBuild → t.payload = s.payload ∧ t.reqAddr = s.reqAddr ∧ t.reqFunc = s.reqFunc
        ∧ t.addrSet = s.addrSet ∧ t.funcSet = s.funcSet ∧ t.paySet = s.paySet)
    ∧ (i ≠ .reqClear → (∀ a, i ≠ .reqAddr a) → t.reqAddr = s.reqAddr ∧ t.addrSet = s.addrSet)
    ∧ (i ≠ .reqClear → (∀ f, i ≠ .reqFunc f) → t.reqFunc = s.reqFunc ∧ t.funcSet = s.funcSet)
    ∧ (i ≠ .reqClear → i ≠ .reqPayloadBegin → t.paySet = s.paySet)
    ∧ (i ≠ .reqClear → i ≠ .reqPayloadBegin → (∀ b, i ≠ .reqPayloadByte b) → t.payload = s.payload)
    ∧ (i = .reqClear ∨ i = .reqPayloadBegin → t.payload = s.payload ∨ t.payload = [])
    ∧ (∀ b, i = .reqPayloadByte b → t.payload = s.payload ∨ t.payload = s.payload ++ [b])
    ∧ ∀ a : ReadAddr, (0x00C ≤ a.toNat ∧ a.toNat ≤ 0x014) ∨ 0x300 ≤ a.toNat → readPort t a = readPort s a

/-! ## Response family -/

/-- R140: RSP_SETSIZE, up to 252 and above. -/
def Obligations.RspSetsizeSetsOrRejects : Prop :=
  ∀ (s : State) (n : Byte), encode (.rspSetsize n) = 0x30#8 ++ n ∧
    (s.fault = false →
      (s.busy = false → n.toNat ≤ 252 → exec (.rspSetsize n) s = .next
        { s with vsize := n, rx := [], rspState := .none, result := .ok, detail := 0x00#8 })
      ∧ (s.busy = false → 252 < n.toNat → exec (.rspSetsize n) s = .next
        { s with result := .invalidArgument, detail := n })
      ∧ (s.busy = true → exec (.rspSetsize n) s = .next { s with fault := true, faultCode := .concurrentUse }))

/-- R141: RSP_CLEAR. -/
def Obligations.RspClearEmptiesTheWindow : Prop :=
  encode .rspClear = 0x3100#16
  ∧ ∀ s : State, s.fault = false →
    (s.busy = false → exec .rspClear s = .next
      { s with rx := [], rspState := .none, result := .ok, detail := 0x00#8 })
    ∧ (s.busy = true → exec .rspClear s = .next { s with fault := true, faultCode := .concurrentUse })
    ∧ ∀ b : Byte, b ≠ 0x00#8 →
        writeCommand (0x31#8 ++ b) s = .next { s with fault := true, faultCode := .illegalCommand }

/-- R142: RSP_BYTE, into a window with room and into a full one. -/
def Obligations.RspByteAppendsOrRejects : Prop :=
  ∀ (s : State) (b : Byte), encode (.rspByte b) = 0x32#8 ++ b ∧
    (s.fault = false →
      (s.busy = false → s.rx.length = s.vsize.toNat + 4 → exec (.rspByte b) s = .next
        { s with result := .invalidArgument, detail := b })
      ∧ (s.busy = false → s.rx.length ≠ s.vsize.toNat + 4 → exec (.rspByte b) s = .next
        { s with rx := s.rx ++ [b], rspState := .none, result := .ok, detail := 0x00#8 })
      ∧ (s.busy = true → exec (.rspByte b) s = .next { s with fault := true, faultCode := .concurrentUse }))

/-- R143: RSP_PARSE: too few bytes, and enough. -/
def Obligations.RspParseIsStructural : Prop :=
  encode .rspParse = 0x3300#16
  ∧ ∀ s : State, s.fault = false →
    (s.busy = false → s.rx.length < s.vsize.toNat + 4 → exec .rspParse s = .next
      { s with rspState := .none, result := .malformedResponse, detail := BitVec.ofNat 8 s.rx.length })
    ∧ (s.busy = false → s.vsize.toNat + 4 ≤ s.rx.length → exec .rspParse s = .next
      { s with rspState := .parsed, result := .ok, detail := 0x00#8 })
    ∧ (s.busy = true → exec .rspParse s = .next { s with fault := true, faultCode := .concurrentUse })
    ∧ ∀ b : Byte, b ≠ 0x00#8 →
        writeCommand (0x33#8 ++ b) s = .next { s with fault := true, faultCode := .illegalCommand }

/-- R144 and R145: RSP_VALIDATE: what is missing is reported as a mask; otherwise checksum, address echo and function
echo in that order, the first that fails giving the result, and only a response that passes all three is kept. (A parsed
response has EXPLEN bytes, R27, and a built request at least four, R28.) -/
def Obligations.RspValidateChecksInOrder : Prop :=
  encode .rspValidate = 0x3400#16
  ∧ ∀ s : State, s.fault = false →
    let n := s.vsize.toNat + 4
    let sum := crc16 (s.rx.take (n - 2))
    let sumRight : Prop :=
      s.rx.getD (n - 2) 0x00#8 = sum.extractLsb' 0 8 ∧ s.rx.getD (n - 1) 0x00#8 = sum.extractLsb' 8 8
    let addrRight : Prop := s.rx.getD 0 0x00#8 = s.tx.getD 0 0x00#8
    let funcRight : Prop := s.rx.getD 1 0x00#8 = s.tx.getD 1 0x00#8
    (s.busy = false → ¬ (s.reqBuilt = true ∧ s.rspState = .parsed) → exec .rspValidate s = .next
      { s with result := .invalidState,
               detail := (if s.reqBuilt then 0x00#8 else 0x10#8) + (if s.rspState = .parsed then 0x00#8 else 0x20#8) })
    ∧ (s.busy = false → s.reqBuilt = true → s.rspState = .parsed → s.rx.length = n →
        (¬ sumRight → exec .rspValidate s = .next
          { s with rspState := .none, result := .dataCorrupted, detail := 0x00#8 })
        ∧ (4 ≤ s.tx.length → sumRight → ¬ addrRight → exec .rspValidate s = .next
          { s with rspState := .none, result := .mismatchAddress, detail := s.tx.getD 0 0x00#8 })
        ∧ (4 ≤ s.tx.length → sumRight → addrRight → ¬ funcRight → exec .rspValidate s = .next
          { s with rspState := .none, result := .mismatchFunction, detail := s.tx.getD 1 0x00#8 })
        ∧ (4 ≤ s.tx.length → sumRight → addrRight → funcRight → exec .rspValidate s = .next
          { s with rspState := .valid, result := .ok, detail := 0x00#8 }))
    ∧ (s.busy = true → exec .rspValidate s = .next { s with fault := true, faultCode := .concurrentUse })
    ∧ ∀ b : Byte, b ≠ 0x00#8 →
        writeCommand (0x34#8 ++ b) s = .next { s with fault := true, faultCode := .illegalCommand }

/-- The frame of the response commands: builder, TX, CRC, session and environment stay; VSIZE changes only in
RSP_SETSIZE; RX changes in none of RSP_PARSE and RSP_VALIDATE; every read of the PAYLOAD and TX windows answers as
before. -/
def Obligations.ResponseCommandsFrame : Prop :=
  ∀ (i : Instr) (s t : State), family i = .response → exec i s = .next t →
    t = { s with vsize := t.vsize, rspState := t.rspState, rx := t.rx, result := t.result, detail := t.detail,
                 fault := t.fault, faultCode := t.faultCode }
    ∧ ((∀ n, i ≠ .rspSetsize n) → t.vsize = s.vsize)
    ∧ (i = .rspParse ∨ i = .rspValidate → t.rx = s.rx)
    ∧ ∀ a : ReadAddr, 0x100 ≤ a.toNat → a.toNat < 0x300 → readPort t a = readPort s a

/-- A response becomes VALID only through all three checks: if a step makes it valid, RX holds exactly the expected
bytes, its checksum is right, address and function echo the built request, and the result is OK. -/
def Obligations.ValidOnlyAfterAllChecks : Prop :=
  ∀ s t : State, s.ResponseInv → s.ExchangeInv → step s = .next t → t.rspState = .valid → s.rspState ≠ .valid →
    t.rx.length = t.vsize.toNat + 4 ∧ checksumGood t.rx ∧ t.rx[0]? = some (byteAt t.tx 0)
      ∧ t.rx[1]? = some (byteAt t.tx 1) ∧ t.reqBuilt = true ∧ t.result = .ok

/-! ## Session family and transport -/

/-- R160: SES_TRANSACT: build, empty RX, RESULT NONE, BUSY, and the frame with its expected length handed to the
transport; or INVALID_STATE with one bit per missing condition and nothing transmitted. -/
def Obligations.SesTransactTransmitsTheFrame : Prop :=
  encode .sesTransact = 0x4000#16
  ∧ ∀ s : State, s.fault = false →
    (s.busy = false → s.addrSet = true → s.funcSet = true → s.paySet = true → s.xport = true →
      exec .sesTransact s = .next
        { s with tx := buildFrame s.reqAddr s.reqFunc s.payload, reqBuilt := true, rx := [], rspState := .none,
                 result := .none, detail := 0x00#8, busy := true, pending := some (s.vsize.toNat + 4),
                 txLog := s.txLog ++ [⟨buildFrame s.reqAddr s.reqFunc s.payload, s.vsize.toNat + 4⟩] })
    ∧ (s.busy = false → ¬ (s.addrSet = true ∧ s.funcSet = true ∧ s.paySet = true ∧ s.xport = true) →
      ∃ m : Byte, exec .sesTransact s = .next { s with result := .invalidState, detail := m }
        ∧ m.getLsbD 0 = !s.addrSet ∧ m.getLsbD 1 = !s.funcSet ∧ m.getLsbD 2 = !s.paySet ∧ m.getLsbD 6 = !s.xport
        ∧ ∀ k, 3 ≤ k → k ≠ 6 → m.getLsbD k = false)
    ∧ (s.busy = true → exec .sesTransact s = .next { s with fault := true, faultCode := .concurrentUse })
    ∧ ∀ b : Byte, b ≠ 0x00#8 →
        writeCommand (0x40#8 ++ b) s = .next { s with fault := true, faultCode := .illegalCommand }

/-- R162: SES_RELEASE clears XPORT, twice as well as once; with the transport released every SES_TRANSACT finishes
INVALID_STATE with bit 0x40 and transmits nothing, and the CRC, request and response families work as before. -/
def Obligations.SesReleaseClearsTheTransport : Prop :=
  encode .sesRelease = 0x4100#16
  ∧ (∀ s : State, s.fault = false →
    (s.busy = false → exec .sesRelease s = .next { s with xport := false, result := .ok, detail := 0x00#8 })
    ∧ (s.busy = false → ∀ t, exec .sesRelease s = .next t → exec .sesRelease t = .next t)
    ∧ (s.busy = false → s.xport = false → ∃ t, exec .sesTransact s = .next t
        ∧ t = { s with result := .invalidState, detail := t.detail } ∧ t.detail.getLsbD 6 = true)
    ∧ (s.busy = true → exec .sesRelease s = .next { s with fault := true, faultCode := .concurrentUse })
    ∧ ∀ b : Byte, b ≠ 0x00#8 →
        writeCommand (0x41#8 ++ b) s = .next { s with fault := true, faultCode := .illegalCommand })
  ∧ ∀ (i : Instr) (s t : State), family i ≠ .session → exec i s = .next t →
      exec i { s with xport := false } = .next { t with xport := false }

/-- R33: XPORT is cleared by SES_RELEASE and set only by reset: no other step changes it. -/
def Obligations.TransportComesBackOnlyByReset : Prop :=
  ∀ s t : State, step s = .next t → t.xport ≠ s.xport →
    (s.xport = true ∧ t.xport = false ∧ s.runsNext .sesRelease) ∨ (s.xport = false ∧ t.xport = true ∧ s.resetsNext)

/-- R165: the event NoResponse while a request is pending. -/
def Obligations.NoResponseEndsTheExchange : Prop :=
  ∀ (s : State) (n : Nat) (ts : List Turn), s.turns = .answer .noResponse :: ts → s.pending = some n →
    (s.fault = false → step s = .next
      { s with turns := ts, pending := none, busy := false, result := .noResponse, detail := 0x00#8 })
    ∧ (s.fault = true → step s = .next { s with turns := ts, pending := none })

/-- R166: the event Deliver with at most the expected number of bytes: a short read is malformed; a full one is validated
against the built request, of at least four bytes (R28), in the order checksum, address, function. -/
def Obligations.DeliveryIsParsedAndValidated : Prop :=
  ∀ (s : State) (bytes : List Byte) (n : Nat) (ts : List Turn),
    s.turns = .answer (.deliver bytes) :: ts → s.pending = some n → bytes.length ≤ n →
    let e := s.vsize.toNat + 4
    let sum := crc16 (bytes.take (e - 2))
    let sumRight : Prop :=
      bytes.getD (e - 2) 0x00#8 = sum.extractLsb' 0 8 ∧ bytes.getD (e - 1) 0x00#8 = sum.extractLsb' 8 8
    let addrRight : Prop := bytes.getD 0 0x00#8 = s.tx.getD 0 0x00#8
    let funcRight : Prop := bytes.getD 1 0x00#8 = s.tx.getD 1 0x00#8
    (s.fault = true → step s = .next { s with turns := ts, pending := none })
    ∧ (s.fault = false → bytes.length < e → step s = .next
        { s with turns := ts, pending := none, busy := false, rx := bytes, rspState := .none,
                 result := .malformedResponse, detail := BitVec.ofNat 8 bytes.length })
    ∧ (s.fault = false → bytes.length = e →
        (¬ sumRight → step s = .next
          { s with turns := ts, pending := none, busy := false, rx := bytes, rspState := .none,
                   result := .dataCorrupted, detail := 0x00#8 })
        ∧ (4 ≤ s.tx.length → sumRight → ¬ addrRight → step s = .next
          { s with turns := ts, pending := none, busy := false, rx := bytes, rspState := .none,
                   result := .mismatchAddress, detail := s.tx.getD 0 0x00#8 })
        ∧ (4 ≤ s.tx.length → sumRight → addrRight → ¬ funcRight → step s = .next
          { s with turns := ts, pending := none, busy := false, rx := bytes, rspState := .none,
                   result := .mismatchFunction, detail := s.tx.getD 1 0x00#8 })
        ∧ (4 ≤ s.tx.length → sumRight → addrRight → funcRight → step s = .next
          { s with turns := ts, pending := none, busy := false, rx := bytes, rspState := .valid,
                   result := .ok, detail := 0x00#8 }))

/-- R167: an over-long delivery and an answer with nothing pending fault, the first recorded fault staying. -/
def Obligations.ContractViolationsFault : Prop :=
  ∀ (s : State) (ts : List Turn),
    (∀ (bytes : List Byte) (n : Nat), s.turns = .answer (.deliver bytes) :: ts → s.pending = some n → n < bytes.length →
      (s.fault = false → step s = .next
        { s with turns := ts, pending := none, fault := true, faultCode := .transportOverrun })
      ∧ (s.fault = true → step s = .next { s with turns := ts, pending := none }))
    ∧ (∀ a : Answer, s.turns = .answer a :: ts → s.pending = none →
      (s.fault = false → step s = .next
        { s with turns := ts, fault := true, faultCode := .transportUnsolicited })
      ∧ (s.fault = true → step s = .next { s with turns := ts }))

/-- The frame of the session commands and the transport's answers: builder, VSIZE and CRC stay; SES_RELEASE and every
answer leave TX, so every read of the PAYLOAD and TX windows after an answer is as before; a command appends to TXLOG
nothing but the frame it built. -/
def Obligations.SessionFrame : Prop :=
  (∀ (i : Instr) (s t : State), family i = .session → exec i s = .next t →
    t = { s with tx := t.tx, reqBuilt := t.reqBuilt, rx := t.rx, rspState := t.rspState, result := t.result,
                 detail := t.detail, fault := t.fault, faultCode := t.faultCode, xport := t.xport, busy := t.busy,
                 pending := t.pending, txLog := t.txLog }
    ∧ (i = .sesRelease → t.tx = s.tx ∧ t.reqBuilt = s.reqBuilt ∧ t.rx = s.rx ∧ t.rspState = s.rspState
        ∧ t.busy = s.busy ∧ t.pending = s.pending ∧ t.txLog = s.txLog)
    ∧ (t.txLog = s.txLog ∨ t.txLog = s.txLog ++ [⟨t.tx, s.explen⟩])
    ∧ ∀ a : ReadAddr, 0x100 ≤ a.toNat → a.toNat < 0x200 → readPort t a = readPort s a)
  ∧ ∀ (a : Answer) (s : State),
    takeAnswer a s =
      { s with rx := (takeAnswer a s).rx, rspState := (takeAnswer a s).rspState, result := (takeAnswer a s).result,
               detail := (takeAnswer a s).detail, fault := (takeAnswer a s).fault,
               faultCode := (takeAnswer a s).faultCode, busy := (takeAnswer a s).busy, pending := none }
    ∧ ∀ r : ReadAddr, 0x100 ≤ r.toNat → r.toNat < 0x300 → readPort (takeAnswer a s) r = readPort s r

/-- One exchange at a time: TXLOG only grows, by one entry, and only in a step of SES_TRANSACT that finds the block
neither busy nor faulted and the transport attached; that step and no other makes the block busy. -/
def Obligations.OneExchangeInFlight : Prop :=
  ∀ s t : State, step s = .next t →
    (t.txLog = s.txLog ∧ (t.busy = true → s.busy = true))
    ∨ (s.runsNext .sesTransact ∧ s.busy = false ∧ s.fault = false ∧ s.xport = true ∧ t.busy = true
        ∧ t.pending = some s.explen ∧ t.txLog = s.txLog ++ [⟨t.tx, s.explen⟩])

/-! ## Reset -/

/-- R240: reset, in any state, faulted or busy, gives every element of the block its reset value, clears PENDING and
keeps TXLOG. (Of the host's program and the remaining turns, the model's own lists, nothing is said here.) -/
def Obligations.ResetSetsEveryElement : Prop :=
  ∀ s : State, s.resetsNext → ∃ t, step s = .next t ∧ t =
    { s with crc := 0xFFFF#16, reqAddr := 0x00#8, reqFunc := 0x00#8, addrSet := false, funcSet := false,
             paySet := false, vsize := 0x00#8, rspState := .none, payload := [], tx := [], rx := [],
             reqBuilt := false, result := .none, detail := 0x00#8, fault := false, faultCode := .none,
             xport := true, busy := false, pending := none, host := t.host, turns := t.turns }

/-- R39: the reset values as the state at power-on holds them, and as the read port shows them. -/
def Obligations.PowerOnValues : Prop :=
  let s := State.reset
  s.crc = 0xFFFF#16 ∧ s.reqAddr = 0x00#8 ∧ s.reqFunc = 0x00#8 ∧ s.addrSet = false ∧ s.funcSet = false
    ∧ s.paySet = false ∧ s.vsize = 0x00#8 ∧ s.explen = 4 ∧ s.rspState = .none ∧ s.payload = [] ∧ s.tx = []
    ∧ s.rx = [] ∧ s.reqBuilt = false ∧ s.result.code = 0x00#8 ∧ s.detail = 0x00#8 ∧ s.fault = false
    ∧ s.faultCode.code = 0x00#8 ∧ s.xport = true ∧ s.busy = false ∧ s.pending = none ∧ s.txLog = []
    ∧ readPort s 0x000#12 = 0x08#8

/-- The invariant of the whole state holds at power-on, and so does the rule of DETAIL. -/
def Obligations.ResetMeetsTheInvariants : Prop := State.reset.Inv ∧ State.reset.DetailInv

/-! ## Invariants of every step -/

/-- Every step from every state that meets the invariant of the whole state (builder ranges, buffer lengths, the built
frame, the exchange, the fault code, the record of transmitted frames) ends in a state that meets it. While BUSY a request
is pending only as long as there is no fault (log entry 6). -/
def Obligations.EveryStepKeepsInvariant : Prop :=
  ∀ s t : State, s.Inv → step s = .next t → t.Inv

/-- Every step keeps the rule that DETAIL is what the result code says, and that no response is kept after a failed or
absent one. -/
def Obligations.EveryStepKeepsDetailRule : Prop :=
  ∀ s t : State, s.Inv → s.DetailInv → step s = .next t → t.DetailInv

/-- A command of the request, response or session family that finishes with INVALID_ARGUMENT or INVALID_STATE writes
nothing but RESULT and DETAIL. -/
def Obligations.RejectedCommandWritesNothingElse : Prop :=
  ∀ (i : Instr) (s t : State), family i ≠ .crc → s.fault = false → s.busy = false → exec i s = .next t →
    (t.result = .invalidArgument ∨ t.result = .invalidState) →
      t = { s with result := t.result, detail := t.detail }

/-- RESULT and DETAIL are written only by an enabled command of the request, response or session family, by a transport
answer that ends an exchange, and by reset. -/
def Obligations.ResultWrittenOnlyByOutcomes : Prop :=
  ∀ s t : State, step s = .next t → (t.result ≠ s.result ∨ t.detail ≠ s.detail) →
    s.resetsNext
    ∨ (∃ i, s.runsNext i ∧ family i ≠ .crc ∧ s.fault = false ∧ s.busy = false)
    ∨ (∃ a, s.turns.head? = some (.answer a) ∧ s.fault = false ∧ s.pending ≠ none ∧ t.busy = false ∧ t.fault = false)

/-- TX and REQ_BUILT are written only by a successful REQ_BUILD or SES_TRANSACT, and VSIZE only by RSP_SETSIZE, beside
reset; what is then in TX is the frame of the builder's fields. -/
def Obligations.TxAndVsizeHaveOneWriter : Prop :=
  ∀ s t : State, step s = .next t → ¬ s.resetsNext →
    ((t.tx ≠ s.tx ∨ t.reqBuilt ≠ s.reqBuilt) →
      (s.runsNext .reqBuild ∨ s.runsNext .sesTransact) ∧ t.reqBuilt = true
        ∧ t.tx = buildFrame s.reqAddr s.reqFunc s.payload)
    ∧ (t.vsize ≠ s.vsize → ∃ n, s.runsNext (.rspSetsize n) ∧ t.vsize = n)

/-! ## Read port -/

/-- R52: the registers of the read map, each address with its value, lengths and CRC split low byte first, RESULT and
FAULT_CODE with the numbers of R200 and R206; and the addresses the names stand for. -/
def Obligations.ReadMapRegisters : Prop :=
  (∀ s : State,
    (∀ k, (readPort s 0x000#12).getLsbD k =
      (if k = 0 then s.busy else if k = 1 then s.fault else if k = 2 then s.reqBuilt else if k = 3 then s.xport
       else if k = 4 then decide (s.rspState = .parsed) else if k = 5 then decide (s.rspState = .valid) else false))
    ∧ readPort s 0x001#12 =
      (match s.result with
        | .none => 0x00#8
        | .ok => 0x01#8
        | .noResponse => 0x02#8
        | .invalidArgument => 0x03#8
        | .invalidState => 0x04#8
        | .malformedResponse => 0x05#8
        | .dataCorrupted => 0x06#8
        | .mismatchAddress => 0x07#8
        | .mismatchFunction => 0x08#8)
    ∧ readPort s 0x002#12 = s.detail
    ∧ (∀ k, (readPort s 0x003#12).getLsbD k =
      (if k = 0 then s.addrSet else if k = 1 then s.funcSet else if k = 2 then s.paySet else false))
    ∧ readPort s 0x004#12 =
      (match s.faultCode with
        | .none => 0x00#8
        | .illegalCommand => 0x01#8
        | .concurrentUse => 0x02#8
        | .transportOverrun => 0x03#8
        | .transportUnsolicited => 0x04#8)
    ∧ readPort s 0x006#12 ++ readPort s 0x005#12 = s.crc
    ∧ readPort s 0x007#12 = s.reqAddr ∧ readPort s 0x008#12 = s.reqFunc
    ∧ (s.payload.length ≤ 255 → (readPort s 0x009#12).toNat = s.payload.length)
    ∧ (s.tx.length ≤ 65535 →
        (readPort s 0x00A#12).toNat + 256 * (readPort s 0x00B#12).toNat = s.tx.length)
    ∧ readPort s 0x00C#12 = s.vsize
    ∧ (readPort s 0x00D#12).toNat + 256 * (readPort s 0x00E#12).toNat = s.vsize.toNat + 4
    ∧ (s.rx.length ≤ 65535 →
        (readPort s 0x00F#12).toNat + 256 * (readPort s 0x010#12).toNat = s.rx.length))
  ∧ [ReadName.STATUS, .RESULT, .DETAIL, .FLAGS, .FAULT_CODE, .CRC_LO, .CRC_HI, .REQ_ADDR, .REQ_FUNC, .PLEN, .TXLEN_LO,
      .TXLEN_HI, .VSIZE, .EXPLEN_LO, .EXPLEN_HI, .RXLEN_LO, .RXLEN_HI, .RSP_ADDR, .RSP_FUNC, .RSP_CRC_LO,
      .RSP_CRC_HI].map (fun n => n.addr.toNat) = List.range 0x015
  ∧ ∀ i : Byte, (ReadName.PAYLOAD i).addr.toNat = 0x100 + i.toNat ∧ (ReadName.TX i).addr.toNat = 0x200 + i.toNat
      ∧ (ReadName.RX i).addr.toNat = 0x300 + i.toNat ∧ (ReadName.VAL i).addr.toNat = 0x400 + i.toNat

/-- R35: the response views: bytes of RX while a response is parsed or valid, 0x00 otherwise and above the value size. -/
def Obligations.ResponseViewsAreGated : Prop :=
  ∀ s : State,
    (s.rspState = .none →
      readPort s 0x011#12 = 0x00#8 ∧ readPort s 0x012#12 = 0x00#8 ∧ readPort s 0x013#12 = 0x00#8
        ∧ readPort s 0x014#12 = 0x00#8 ∧ ∀ i : Byte, readPort s (0x4#4 ++ i) = 0x00#8)
    ∧ (s.rspState ≠ .none → s.rx.length = s.vsize.toNat + 4 →
      some (readPort s 0x011#12) = s.rx[0]? ∧ some (readPort s 0x012#12) = s.rx[1]?
        ∧ some (readPort s 0x013#12) = s.rx[s.vsize.toNat + 2]? ∧ some (readPort s 0x014#12) = s.rx[s.vsize.toNat + 3]?
        ∧ ∀ i : Byte, (i.toNat < s.vsize.toNat → some (readPort s (0x4#4 ++ i)) = s.rx[2 + i.toNat]?)
          ∧ (s.vsize.toNat ≤ i.toNat → readPort s (0x4#4 ++ i) = 0x00#8))

/-- R54: the windows of PAYLOAD, TX and RX: the byte below the length, 0x00 from the length on. -/
def Obligations.BufferWindowsReadTheirBytes : Prop :=
  ∀ (s : State) (i : Byte),
    (∀ h : i.toNat < s.payload.length, readPort s (0x1#4 ++ i) = s.payload[i.toNat])
    ∧ (s.payload.length ≤ i.toNat → readPort s (0x1#4 ++ i) = 0x00#8)
    ∧ (∀ h : i.toNat < s.tx.length, readPort s (0x2#4 ++ i) = s.tx[i.toNat])
    ∧ (s.tx.length ≤ i.toNat → readPort s (0x2#4 ++ i) = 0x00#8)
    ∧ (∀ h : i.toNat < s.rx.length, readPort s (0x3#4 ++ i) = s.rx[i.toNat])
    ∧ (s.rx.length ≤ i.toNat → readPort s (0x3#4 ++ i) = 0x00#8)

/-- R53 and R55: a read step changes no element of the block and none of its environment, reserved addresses read 0x00,
and the reserved bits of STATUS and FLAGS read 0. -/
def Obligations.ReadsHaveNoEffect : Prop :=
  ∀ (s : State),
    (∀ (a : ReadAddr) (ts : List Turn) (rest : List HostAction), s.turns = .host :: ts → s.host = .read a :: rest →
      step s = .next { s with turns := ts, host := rest }
        ∧ ∀ t, step s = .next t → ∀ b, readPort t b = readPort s b)
    ∧ (∀ a : ReadAddr, ((0x015 ≤ a.toNat ∧ a.toNat ≤ 0x0FF) ∨ 0x500 ≤ a.toNat) → readPort s a = 0x00#8)
    ∧ readPort s 0x000#12 &&& 0xC0#8 = 0x00#8 ∧ readPort s 0x003#12 &&& 0xF8#8 = 0x00#8

/-- WAIT (30_encoding.md section 4) ends exactly when BUSY is 0, changes nothing, and otherwise stays the host's next
action. That one turn is one read of STATUS is the model's own (log entry 3). -/
def Obligations.WaitHoldsWhileBusy : Prop :=
  ∀ (s : State) (ts : List Turn) (rest : List HostAction), s.turns = .host :: ts → s.host = .wait :: rest →
    (s.busy = true → step s = .next { s with turns := ts })
    ∧ (s.busy = false → step s = .next { s with turns := ts, host := rest })

/-! ## Whole exchanges -/

/-- The macro SEND (R77, R129) with a valid address, a valid function code and at most 252 payload bytes transmits
exactly the frame of its arguments, whatever the builder held before (41_request.md section 2, 43_session.md section 1). -/
def Obligations.SendTransmitsItsArguments : Prop :=
  ∀ (s : State) (a f : Byte) (p : List Byte),
    s.fault = false → s.busy = false → s.xport = true → a.toNat ≤ 247 → 1 ≤ f.toNat → f.toNat ≤ 127 → p.length ≤ 252 →
      ∃ t, runCommands (macroSend a f p) s = .next t ∧ t.busy = true ∧ t.pending = some (s.vsize.toNat + 4)
        ∧ t.tx = buildFrame a f p ∧ t.txLog = s.txLog ++ [⟨buildFrame a f p, s.vsize.toNat + 4⟩]
        ∧ t.fault = false ∧ t.crc = s.crc ∧ t.vsize = s.vsize

/-- A whole exchange: SES_TRANSACT answered with a rightly checksummed frame of the same address and function and any
value of the expected size ends OK, and the call returns exactly that value. -/
def Obligations.EchoedExchangeReturnsTheValue : Prop :=
  ∀ (s : State) (value : List Byte),
    s.fault = false → s.busy = false → s.xport = true → s.addrSet = true → s.funcSet = true → s.paySet = true →
    value.length = s.vsize.toNat →
      ∃ t, exec .sesTransact s = .next t
        ∧ (takeAnswer (.deliver (buildFrame s.reqAddr s.reqFunc value)) t).callReturn
            = some (.response s.reqAddr s.reqFunc value)
        ∧ (takeAnswer (.deliver (buildFrame s.reqAddr s.reqFunc value)) t).rspState = .valid
        ∧ (takeAnswer (.deliver (buildFrame s.reqAddr s.reqFunc value)) t).pending = none
        ∧ (takeAnswer .noResponse t).callReturn = some .noResponse

/-- A mismatch is not corruption: a rightly checksummed answer of the expected size whose address is another finishes
MISMATCH_ADDRESS, naming the expected one; with the address right and the function another (an exception response, whose
function code has bit 7 set, among them) MISMATCH_FUNCTION. Where TX is shorter than two bytes, which no run reaches while
a request is pending (State.FrameInv, State.ExchangeInv), the byte compared is the model's own 0x00 (log entry 5). -/
def Obligations.MismatchIsNotCorruption : Prop :=
  ∀ (s : State) (a f : Byte) (value : List Byte),
    s.fault = false → s.pending = some (s.vsize.toNat + 4) → value.length = s.vsize.toNat →
      (a ≠ byteAt s.tx 0 → takeAnswer (.deliver (buildFrame a f value)) s =
        { s with pending := none, busy := false, rx := buildFrame a f value, rspState := .none,
                 result := .mismatchAddress, detail := byteAt s.tx 0 })
      ∧ (a = byteAt s.tx 0 → f ≠ byteAt s.tx 1 → takeAnswer (.deliver (buildFrame a f value)) s =
        { s with pending := none, busy := false, rx := buildFrame a f value, rspState := .none,
                 result := .mismatchFunction, detail := byteAt s.tx 1 })

/-- The two ways to a validated response agree: the answer taken from the transport after SES_TRANSACT, and the same
bytes fed by the host after REQ_BUILD with RSP_CLEAR, RSP_BYTE, RSP_PARSE and RSP_VALIDATE, leave the block in the same
state, whatever the bytes are. -/
def Obligations.HostFedEqualsTransportFed : Prop :=
  ∀ (s : State) (bytes : List Byte),
    s.fault = false → s.busy = false → s.xport = true → s.addrSet = true → s.funcSet = true → s.paySet = true →
    bytes.length = s.vsize.toNat + 4 →
      ∃ t u, exec .sesTransact s = .next t
        ∧ runCommands (.reqBuild :: macroRspBytes bytes ++ [.rspParse, .rspValidate]) s = .next u
        ∧ takeAnswer (.deliver bytes) t =
            { u with pending := none, txLog := s.txLog ++ [⟨u.tx, bytes.length⟩] }

/-- What the source's call returns, read through the read port after an exchange has ended (43_session.md section 1):
RSP_ADDR, RSP_FUNC and the VAL window for a valid response, and DETAIL as the expected value for a mismatch. That nothing
is returned while the block is busy or faulted is the model's reading (DEDUCED, log entry 11) of 43_session.md R168: "An
exchange has not ended while BUSY = 1, nor when FAULT = 1". -/
def Obligations.CallReturnIsReadFromThePort : Prop :=
  ∀ s : State,
    (s.busy = true ∨ s.fault = true → s.callReturn = none)
    ∧ (s.busy = false → s.fault = false →
      (readPort s 0x001#12 = 0x01#8 → s.callReturn = some (.response (readPort s 0x011#12) (readPort s 0x012#12)
          ((List.range (readPort s 0x00C#12).toNat).map fun i => readPort s (BitVec.ofNat 12 (0x400 + i)))))
      ∧ (readPort s 0x001#12 = 0x02#8 → s.callReturn = some .noResponse)
      ∧ (readPort s 0x001#12 = 0x04#8 → s.callReturn = some .invalidState)
      ∧ (readPort s 0x001#12 = 0x05#8 → s.callReturn = some .malformedResponse)
      ∧ (readPort s 0x001#12 = 0x06#8 → s.callReturn = some .dataCorrupted)
      ∧ (readPort s 0x001#12 = 0x07#8 ∨ readPort s 0x001#12 = 0x08#8 →
          s.callReturn = some (.mismatchData (readPort s 0x002#12))))

/-- A run that has ended (70_reset_and_hazards.md section 5) stays as it is until the transport answers or the platform
resets: no other step changes an element of the block or what a read shows, and the run has still ended. What the host
has left to do stands in a list of the model's own (log entry 1). -/
def Obligations.EndedRunStaysEnded : Prop :=
  ∀ s t : State, s.ended → (∀ a, s.turns.head? ≠ some (.answer a)) → ¬ s.resetsNext → step s = .next t →
    t = { s with host := t.host, turns := t.turns } ∧ t.ended ∧ ∀ a, readPort t a = readPort s a
end

