-- ==== Sys2Proof/Laws/Decode.lean ====
section
/-! SUPPORT. A command word is its two fields put together, and nothing else (spec/30_encoding.md R70). -/

namespace Sys2Proof

theorem word_getLsbD (op imm : Byte) (k : Nat) :
    (op ++ imm : Word).getLsbD k = if k < 8 then imm.getLsbD k else op.getLsbD (k - 8) := by
  have h := BitVec.getLsbD_append (x := op) (y := imm) (i := k)
  split_ifs with hk
  · simpa only [hk, if_true] using h
  · simpa only [hk, if_false] using h

theorem opField_append (op imm : Byte) : opField (op ++ imm) = op := by
  apply BitVec.eq_of_getLsbD_eq
  intro k hk
  unfold opField
  rw [BitVec.getLsbD_extractLsb', word_getLsbD]
  simp [hk]

theorem immField_append (op imm : Byte) : immField (op ++ imm) = imm := by
  apply BitVec.eq_of_getLsbD_eq
  intro k hk
  unfold immField
  rw [BitVec.getLsbD_extractLsb', word_getLsbD]
  simp [hk]

theorem append_fields (w : Word) : opField w ++ immField w = w := by
  apply BitVec.eq_of_getLsbD_eq
  intro k hk
  rw [word_getLsbD]
  unfold opField immField
  split_ifs with h
  · simp [h]
  · have h1 : k - 8 < 8 := by omega
    have h2 : 8 + (k - 8) = k := by omega
    simp only [BitVec.getLsbD_extractLsb', h1, h2, decide_true, Bool.true_and]

/-- Two words with the same fields put together are the same fields. -/
theorem fields_inj {o₁ o₂ b₁ b₂ : Byte} (h : (o₁ ++ b₁ : Word) = o₂ ++ b₂) : o₁ = o₂ ∧ b₁ = b₂ := by
  have ho := congrArg opField h
  have hb := congrArg immField h
  rw [opField_append, opField_append] at ho
  rw [immField_append, immField_append] at hb
  exact ⟨ho, hb⟩

end Sys2Proof
end

