-- ==== Sys2Proof/Laws/State.lean ====
section
/-! SUPPORT. One lemma per field per shared update of the state, so that no later proof unfolds a record update. -/

namespace Sys2Proof.Machine

/-! ### finish -/

@[simp] theorem State.finish_crc (s : State) (c : ResultCode) (d : Byte) : (s.finish c d).crc = s.crc := rfl
@[simp] theorem State.finish_reqAddr (s : State) (c : ResultCode) (d : Byte) : (s.finish c d).reqAddr = s.reqAddr := rfl
@[simp] theorem State.finish_reqFunc (s : State) (c : ResultCode) (d : Byte) : (s.finish c d).reqFunc = s.reqFunc := rfl
@[simp] theorem State.finish_addrSet (s : State) (c : ResultCode) (d : Byte) : (s.finish c d).addrSet = s.addrSet := rfl
@[simp] theorem State.finish_funcSet (s : State) (c : ResultCode) (d : Byte) : (s.finish c d).funcSet = s.funcSet := rfl
@[simp] theorem State.finish_paySet (s : State) (c : ResultCode) (d : Byte) : (s.finish c d).paySet = s.paySet := rfl
@[simp] theorem State.finish_vsize (s : State) (c : ResultCode) (d : Byte) : (s.finish c d).vsize = s.vsize := rfl
@[simp] theorem State.finish_rspState (s : State) (c : ResultCode) (d : Byte) : (s.finish c d).rspState = s.rspState := rfl
@[simp] theorem State.finish_payload (s : State) (c : ResultCode) (d : Byte) : (s.finish c d).payload = s.payload := rfl
@[simp] theorem State.finish_tx (s : State) (c : ResultCode) (d : Byte) : (s.finish c d).tx = s.tx := rfl
@[simp] theorem State.finish_rx (s : State) (c : ResultCode) (d : Byte) : (s.finish c d).rx = s.rx := rfl
@[simp] theorem State.finish_reqBuilt (s : State) (c : ResultCode) (d : Byte) : (s.finish c d).reqBuilt = s.reqBuilt := rfl
@[simp] theorem State.finish_result (s : State) (c : ResultCode) (d : Byte) : (s.finish c d).result = c := rfl
@[simp] theorem State.finish_detail (s : State) (c : ResultCode) (d : Byte) : (s.finish c d).detail = d := rfl
@[simp] theorem State.finish_fault (s : State) (c : ResultCode) (d : Byte) : (s.finish c d).fault = s.fault := rfl
@[simp] theorem State.finish_faultCode (s : State) (c : ResultCode) (d : Byte) : (s.finish c d).faultCode = s.faultCode := rfl
@[simp] theorem State.finish_xport (s : State) (c : ResultCode) (d : Byte) : (s.finish c d).xport = s.xport := rfl
@[simp] theorem State.finish_busy (s : State) (c : ResultCode) (d : Byte) : (s.finish c d).busy = s.busy := rfl
@[simp] theorem State.finish_pending (s : State) (c : ResultCode) (d : Byte) : (s.finish c d).pending = s.pending := rfl
@[simp] theorem State.finish_txLog (s : State) (c : ResultCode) (d : Byte) : (s.finish c d).txLog = s.txLog := rfl
@[simp] theorem State.finish_host (s : State) (c : ResultCode) (d : Byte) : (s.finish c d).host = s.host := rfl
@[simp] theorem State.finish_turns (s : State) (c : ResultCode) (d : Byte) : (s.finish c d).turns = s.turns := rfl

/-! ### raise Fault -/

@[simp] theorem State.raiseFault_crc (s : State) (c : FaultCode) : (s.raiseFault c).crc = s.crc := rfl
@[simp] theorem State.raiseFault_reqAddr (s : State) (c : FaultCode) : (s.raiseFault c).reqAddr = s.reqAddr := rfl
@[simp] theorem State.raiseFault_reqFunc (s : State) (c : FaultCode) : (s.raiseFault c).reqFunc = s.reqFunc := rfl
@[simp] theorem State.raiseFault_addrSet (s : State) (c : FaultCode) : (s.raiseFault c).addrSet = s.addrSet := rfl
@[simp] theorem State.raiseFault_funcSet (s : State) (c : FaultCode) : (s.raiseFault c).funcSet = s.funcSet := rfl
@[simp] theorem State.raiseFault_paySet (s : State) (c : FaultCode) : (s.raiseFault c).paySet = s.paySet := rfl
@[simp] theorem State.raiseFault_vsize (s : State) (c : FaultCode) : (s.raiseFault c).vsize = s.vsize := rfl
@[simp] theorem State.raiseFault_rspState (s : State) (c : FaultCode) : (s.raiseFault c).rspState = s.rspState := rfl
@[simp] theorem State.raiseFault_payload (s : State) (c : FaultCode) : (s.raiseFault c).payload = s.payload := rfl
@[simp] theorem State.raiseFault_tx (s : State) (c : FaultCode) : (s.raiseFault c).tx = s.tx := rfl
@[simp] theorem State.raiseFault_rx (s : State) (c : FaultCode) : (s.raiseFault c).rx = s.rx := rfl
@[simp] theorem State.raiseFault_reqBuilt (s : State) (c : FaultCode) : (s.raiseFault c).reqBuilt = s.reqBuilt := rfl
@[simp] theorem State.raiseFault_result (s : State) (c : FaultCode) : (s.raiseFault c).result = s.result := rfl
@[simp] theorem State.raiseFault_detail (s : State) (c : FaultCode) : (s.raiseFault c).detail = s.detail := rfl
@[simp] theorem State.raiseFault_fault (s : State) (c : FaultCode) : (s.raiseFault c).fault = true := rfl
@[simp] theorem State.raiseFault_faultCode (s : State) (c : FaultCode) : (s.raiseFault c).faultCode = c := rfl
@[simp] theorem State.raiseFault_xport (s : State) (c : FaultCode) : (s.raiseFault c).xport = s.xport := rfl
@[simp] theorem State.raiseFault_busy (s : State) (c : FaultCode) : (s.raiseFault c).busy = s.busy := rfl
@[simp] theorem State.raiseFault_pending (s : State) (c : FaultCode) : (s.raiseFault c).pending = s.pending := rfl
@[simp] theorem State.raiseFault_txLog (s : State) (c : FaultCode) : (s.raiseFault c).txLog = s.txLog := rfl
@[simp] theorem State.raiseFault_host (s : State) (c : FaultCode) : (s.raiseFault c).host = s.host := rfl
@[simp] theorem State.raiseFault_turns (s : State) (c : FaultCode) : (s.raiseFault c).turns = s.turns := rfl

/-! ### reset -/

@[simp] theorem State.resetBlock_crc (s : State) : (s.resetBlock).crc = State.reset.crc := rfl
@[simp] theorem State.resetBlock_reqAddr (s : State) : (s.resetBlock).reqAddr = State.reset.reqAddr := rfl
@[simp] theorem State.resetBlock_reqFunc (s : State) : (s.resetBlock).reqFunc = State.reset.reqFunc := rfl
@[simp] theorem State.resetBlock_addrSet (s : State) : (s.resetBlock).addrSet = State.reset.addrSet := rfl
@[simp] theorem State.resetBlock_funcSet (s : State) : (s.resetBlock).funcSet = State.reset.funcSet := rfl
@[simp] theorem State.resetBlock_paySet (s : State) : (s.resetBlock).paySet = State.reset.paySet := rfl
@[simp] theorem State.resetBlock_vsize (s : State) : (s.resetBlock).vsize = State.reset.vsize := rfl
@[simp] theorem State.resetBlock_rspState (s : State) : (s.resetBlock).rspState = State.reset.rspState := rfl
@[simp] theorem State.resetBlock_payload (s : State) : (s.resetBlock).payload = State.reset.payload := rfl
@[simp] theorem State.resetBlock_tx (s : State) : (s.resetBlock).tx = State.reset.tx := rfl
@[simp] theorem State.resetBlock_rx (s : State) : (s.resetBlock).rx = State.reset.rx := rfl
@[simp] theorem State.resetBlock_reqBuilt (s : State) : (s.resetBlock).reqBuilt = State.reset.reqBuilt := rfl
@[simp] theorem State.resetBlock_result (s : State) : (s.resetBlock).result = State.reset.result := rfl
@[simp] theorem State.resetBlock_detail (s : State) : (s.resetBlock).detail = State.reset.detail := rfl
@[simp] theorem State.resetBlock_fault (s : State) : (s.resetBlock).fault = State.reset.fault := rfl
@[simp] theorem State.resetBlock_faultCode (s : State) : (s.resetBlock).faultCode = State.reset.faultCode := rfl
@[simp] theorem State.resetBlock_xport (s : State) : (s.resetBlock).xport = State.reset.xport := rfl
@[simp] theorem State.resetBlock_busy (s : State) : (s.resetBlock).busy = State.reset.busy := rfl
@[simp] theorem State.resetBlock_pending (s : State) : (s.resetBlock).pending = State.reset.pending := rfl
@[simp] theorem State.resetBlock_txLog (s : State) : (s.resetBlock).txLog = s.txLog := rfl
@[simp] theorem State.resetBlock_host (s : State) : (s.resetBlock).host = s.host := rfl
@[simp] theorem State.resetBlock_turns (s : State) : (s.resetBlock).turns = s.turns := rfl

/-! ### a successful build -/

@[simp] theorem State.storeFrame_crc (s : State) : (s.storeFrame).crc = s.crc := rfl
@[simp] theorem State.storeFrame_reqAddr (s : State) : (s.storeFrame).reqAddr = s.reqAddr := rfl
@[simp] theorem State.storeFrame_reqFunc (s : State) : (s.storeFrame).reqFunc = s.reqFunc := rfl
@[simp] theorem State.storeFrame_addrSet (s : State) : (s.storeFrame).addrSet = s.addrSet := rfl
@[simp] theorem State.storeFrame_funcSet (s : State) : (s.storeFrame).funcSet = s.funcSet := rfl
@[simp] theorem State.storeFrame_paySet (s : State) : (s.storeFrame).paySet = s.paySet := rfl
@[simp] theorem State.storeFrame_vsize (s : State) : (s.storeFrame).vsize = s.vsize := rfl
@[simp] theorem State.storeFrame_rspState (s : State) : (s.storeFrame).rspState = s.rspState := rfl
@[simp] theorem State.storeFrame_payload (s : State) : (s.storeFrame).payload = s.payload := rfl
@[simp] theorem State.storeFrame_tx (s : State) : (s.storeFrame).tx = s.builderFrame := rfl
@[simp] theorem State.storeFrame_rx (s : State) : (s.storeFrame).rx = s.rx := rfl
@[simp] theorem State.storeFrame_reqBuilt (s : State) : (s.storeFrame).reqBuilt = true := rfl
@[simp] theorem State.storeFrame_result (s : State) : (s.storeFrame).result = s.result := rfl
@[simp] theorem State.storeFrame_detail (s : State) : (s.storeFrame).detail = s.detail := rfl
@[simp] theorem State.storeFrame_fault (s : State) : (s.storeFrame).fault = s.fault := rfl
@[simp] theorem State.storeFrame_faultCode (s : State) : (s.storeFrame).faultCode = s.faultCode := rfl
@[simp] theorem State.storeFrame_xport (s : State) : (s.storeFrame).xport = s.xport := rfl
@[simp] theorem State.storeFrame_busy (s : State) : (s.storeFrame).busy = s.busy := rfl
@[simp] theorem State.storeFrame_pending (s : State) : (s.storeFrame).pending = s.pending := rfl
@[simp] theorem State.storeFrame_txLog (s : State) : (s.storeFrame).txLog = s.txLog := rfl
@[simp] theorem State.storeFrame_host (s : State) : (s.storeFrame).host = s.host := rfl
@[simp] theorem State.storeFrame_turns (s : State) : (s.storeFrame).turns = s.turns := rfl

/-! ### emptying RX -/

@[simp] theorem State.emptyRx_crc (s : State) : (s.emptyRx).crc = s.crc := rfl
@[simp] theorem State.emptyRx_reqAddr (s : State) : (s.emptyRx).reqAddr = s.reqAddr := rfl
@[simp] theorem State.emptyRx_reqFunc (s : State) : (s.emptyRx).reqFunc = s.reqFunc := rfl
@[simp] theorem State.emptyRx_addrSet (s : State) : (s.emptyRx).addrSet = s.addrSet := rfl
@[simp] theorem State.emptyRx_funcSet (s : State) : (s.emptyRx).funcSet = s.funcSet := rfl
@[simp] theorem State.emptyRx_paySet (s : State) : (s.emptyRx).paySet = s.paySet := rfl
@[simp] theorem State.emptyRx_vsize (s : State) : (s.emptyRx).vsize = s.vsize := rfl
@[simp] theorem State.emptyRx_rspState (s : State) : (s.emptyRx).rspState = .none := rfl
@[simp] theorem State.emptyRx_payload (s : State) : (s.emptyRx).payload = s.payload := rfl
@[simp] theorem State.emptyRx_tx (s : State) : (s.emptyRx).tx = s.tx := rfl
@[simp] theorem State.emptyRx_rx (s : State) : (s.emptyRx).rx = [] := rfl
@[simp] theorem State.emptyRx_reqBuilt (s : State) : (s.emptyRx).reqBuilt = s.reqBuilt := rfl
@[simp] theorem State.emptyRx_result (s : State) : (s.emptyRx).result = s.result := rfl
@[simp] theorem State.emptyRx_detail (s : State) : (s.emptyRx).detail = s.detail := rfl
@[simp] theorem State.emptyRx_fault (s : State) : (s.emptyRx).fault = s.fault := rfl
@[simp] theorem State.emptyRx_faultCode (s : State) : (s.emptyRx).faultCode = s.faultCode := rfl
@[simp] theorem State.emptyRx_xport (s : State) : (s.emptyRx).xport = s.xport := rfl
@[simp] theorem State.emptyRx_busy (s : State) : (s.emptyRx).busy = s.busy := rfl
@[simp] theorem State.emptyRx_pending (s : State) : (s.emptyRx).pending = s.pending := rfl
@[simp] theorem State.emptyRx_txLog (s : State) : (s.emptyRx).txLog = s.txLog := rfl
@[simp] theorem State.emptyRx_host (s : State) : (s.emptyRx).host = s.host := rfl
@[simp] theorem State.emptyRx_turns (s : State) : (s.emptyRx).turns = s.turns := rfl

/-! ### emit Transmit -/

@[simp] theorem State.emitTransmit_crc (s : State) (frame : List Byte) (n : Nat) : (s.emitTransmit frame n).crc = s.crc := rfl
@[simp] theorem State.emitTransmit_reqAddr (s : State) (frame : List Byte) (n : Nat) : (s.emitTransmit frame n).reqAddr = s.reqAddr := rfl
@[simp] theorem State.emitTransmit_reqFunc (s : State) (frame : List Byte) (n : Nat) : (s.emitTransmit frame n).reqFunc = s.reqFunc := rfl
@[simp] theorem State.emitTransmit_addrSet (s : State) (frame : List Byte) (n : Nat) : (s.emitTransmit frame n).addrSet = s.addrSet := rfl
@[simp] theorem State.emitTransmit_funcSet (s : State) (frame : List Byte) (n : Nat) : (s.emitTransmit frame n).funcSet = s.funcSet := rfl
@[simp] theorem State.emitTransmit_paySet (s : State) (frame : List Byte) (n : Nat) : (s.emitTransmit frame n).paySet = s.paySet := rfl
@[simp] theorem State.emitTransmit_vsize (s : State) (frame : List Byte) (n : Nat) : (s.emitTransmit frame n).vsize = s.vsize := rfl
@[simp] theorem State.emitTransmit_rspState (s : State) (frame : List Byte) (n : Nat) : (s.emitTransmit frame n).rspState = s.rspState := rfl
@[simp] theorem State.emitTransmit_payload (s : State) (frame : List Byte) (n : Nat) : (s.emitTransmit frame n).payload = s.payload := rfl
@[simp] theorem State.emitTransmit_tx (s : State) (frame : List Byte) (n : Nat) : (s.emitTransmit frame n).tx = s.tx := rfl
@[simp] theorem State.emitTransmit_rx (s : State) (frame : List Byte) (n : Nat) : (s.emitTransmit frame n).rx = s.rx := rfl
@[simp] theorem State.emitTransmit_reqBuilt (s : State) (frame : List Byte) (n : Nat) : (s.emitTransmit frame n).reqBuilt = s.reqBuilt := rfl
@[simp] theorem State.emitTransmit_result (s : State) (frame : List Byte) (n : Nat) : (s.emitTransmit frame n).result = s.result := rfl
@[simp] theorem State.emitTransmit_detail (s : State) (frame : List Byte) (n : Nat) : (s.emitTransmit frame n).detail = s.detail := rfl
@[simp] theorem State.emitTransmit_fault (s : State) (frame : List Byte) (n : Nat) : (s.emitTransmit frame n).fault = s.fault := rfl
@[simp] theorem State.emitTransmit_faultCode (s : State) (frame : List Byte) (n : Nat) : (s.emitTransmit frame n).faultCode = s.faultCode := rfl
@[simp] theorem State.emitTransmit_xport (s : State) (frame : List Byte) (n : Nat) : (s.emitTransmit frame n).xport = s.xport := rfl
@[simp] theorem State.emitTransmit_busy (s : State) (frame : List Byte) (n : Nat) : (s.emitTransmit frame n).busy = s.busy := rfl
@[simp] theorem State.emitTransmit_pending (s : State) (frame : List Byte) (n : Nat) : (s.emitTransmit frame n).pending = some n := rfl
@[simp] theorem State.emitTransmit_txLog (s : State) (frame : List Byte) (n : Nat) : (s.emitTransmit frame n).txLog = s.txLog ++ [⟨frame, n⟩] := rfl
@[simp] theorem State.emitTransmit_host (s : State) (frame : List Byte) (n : Nat) : (s.emitTransmit frame n).host = s.host := rfl
@[simp] theorem State.emitTransmit_turns (s : State) (frame : List Byte) (n : Nat) : (s.emitTransmit frame n).turns = s.turns := rfl

/-! ### the end of a validation -/

@[simp] theorem State.conclude_crc (s : State) : (s.conclude).crc = s.crc := rfl
@[simp] theorem State.conclude_reqAddr (s : State) : (s.conclude).reqAddr = s.reqAddr := rfl
@[simp] theorem State.conclude_reqFunc (s : State) : (s.conclude).reqFunc = s.reqFunc := rfl
@[simp] theorem State.conclude_addrSet (s : State) : (s.conclude).addrSet = s.addrSet := rfl
@[simp] theorem State.conclude_funcSet (s : State) : (s.conclude).funcSet = s.funcSet := rfl
@[simp] theorem State.conclude_paySet (s : State) : (s.conclude).paySet = s.paySet := rfl
@[simp] theorem State.conclude_vsize (s : State) : (s.conclude).vsize = s.vsize := rfl
@[simp] theorem State.conclude_rspState (s : State) : (s.conclude).rspState = (if s.check.1 = ResultCode.ok then RspState.valid else RspState.none) := rfl
@[simp] theorem State.conclude_payload (s : State) : (s.conclude).payload = s.payload := rfl
@[simp] theorem State.conclude_tx (s : State) : (s.conclude).tx = s.tx := rfl
@[simp] theorem State.conclude_rx (s : State) : (s.conclude).rx = s.rx := rfl
@[simp] theorem State.conclude_reqBuilt (s : State) : (s.conclude).reqBuilt = s.reqBuilt := rfl
@[simp] theorem State.conclude_result (s : State) : (s.conclude).result = s.check.1 := rfl
@[simp] theorem State.conclude_detail (s : State) : (s.conclude).detail = s.check.2 := rfl
@[simp] theorem State.conclude_fault (s : State) : (s.conclude).fault = s.fault := rfl
@[simp] theorem State.conclude_faultCode (s : State) : (s.conclude).faultCode = s.faultCode := rfl
@[simp] theorem State.conclude_xport (s : State) : (s.conclude).xport = s.xport := rfl
@[simp] theorem State.conclude_busy (s : State) : (s.conclude).busy = s.busy := rfl
@[simp] theorem State.conclude_pending (s : State) : (s.conclude).pending = s.pending := rfl
@[simp] theorem State.conclude_txLog (s : State) : (s.conclude).txLog = s.txLog := rfl
@[simp] theorem State.conclude_host (s : State) : (s.conclude).host = s.host := rfl
@[simp] theorem State.conclude_turns (s : State) : (s.conclude).turns = s.turns := rfl

end Sys2Proof.Machine
end

