-- ==== Sys2Proof/Laws/Ops.lean ====
section
/-! SUPPORT. What each shared operation can do, said once: the enabling checks, raising a fault, validation, and the
shape of a frame. -/

namespace Sys2Proof.Machine

/-- All a command of the CRC family can do. -/
theorem whenNotFaulted_cases {s t : State} {run : State → State} (h : whenNotFaulted s run = .next t) :
    (s.fault = true ∧ t = s) ∨ (s.fault = false ∧ t = run s) := by
  unfold whenNotFaulted at h
  cases hf : s.fault <;> simp_all

/-- All a command of another family can do. -/
theorem whenIdle_cases {s t : State} {run : State → State} (h : whenIdle s run = .next t) :
    (s.fault = true ∧ t = s)
      ∨ (s.fault = false ∧ s.busy = true ∧ t = s.raiseFault .concurrentUse)
      ∨ (s.fault = false ∧ s.busy = false ∧ t = run s) := by
  unfold whenIdle at h
  cases hf : s.fault <;> cases hb : s.busy <;> simp_all

theorem whenNotFaulted_enabled {s : State} {run : State → State} (hf : s.fault = false) :
    whenNotFaulted s run = .next (run s) := by
  simp [whenNotFaulted, hf]

theorem whenIdle_enabled {s : State} {run : State → State} (hf : s.fault = false) (hb : s.busy = false) :
    whenIdle s run = .next (run s) := by
  simp [whenIdle, hf, hb]

theorem whenIdle_busy {s : State} {run : State → State} (hf : s.fault = false) (hb : s.busy = true) :
    whenIdle s run = .next (s.raiseFault .concurrentUse) := by
  simp [whenIdle, hf, hb]

/-- Raising a fault where one may stand already. -/
theorem State.raiseFirst_cases (s : State) (c : FaultCode) :
    (s.fault = true ∧ s.raiseFirst c = s) ∨ (s.fault = false ∧ s.raiseFirst c = s.raiseFault c) := by
  unfold State.raiseFirst
  cases hf : s.fault <;> simp

/-- What RX and TX must show for the checksum part of a validation. -/
def State.sumMatches (s : State) : Prop :=
  byteAt s.rx (s.explen - 2) = byteAt (crcBytes (s.rx.take (s.explen - 2))) 0
    ∧ byteAt s.rx (s.explen - 1) = byteAt (crcBytes (s.rx.take (s.explen - 2))) 1

/-- The four outcomes of a validation, the first failing check winning. -/
theorem State.check_cases (s : State) :
    (¬ s.sumMatches ∧ s.check = (.dataCorrupted, 0x00#8))
      ∨ (s.sumMatches ∧ byteAt s.rx 0 ≠ byteAt s.tx 0 ∧ s.check = (.mismatchAddress, byteAt s.tx 0))
      ∨ (s.sumMatches ∧ byteAt s.rx 0 = byteAt s.tx 0 ∧ byteAt s.rx 1 ≠ byteAt s.tx 1
          ∧ s.check = (.mismatchFunction, byteAt s.tx 1))
      ∨ (s.sumMatches ∧ byteAt s.rx 0 = byteAt s.tx 0 ∧ byteAt s.rx 1 = byteAt s.tx 1
          ∧ s.check = (.ok, 0x00#8)) := by
  by_cases h1 : s.sumMatches
  · have hm := h1
    unfold State.sumMatches at h1
    by_cases h2 : byteAt s.rx 0 = byteAt s.tx 0
    · by_cases h3 : byteAt s.rx 1 = byteAt s.tx 1
      · refine .inr (.inr (.inr ⟨hm, h2, h3, ?_⟩))
        simp [State.check, h1, h2, h3]
      · refine .inr (.inr (.inl ⟨hm, h2, h3, ?_⟩))
        simp [State.check, h1, h2, h3]
    · refine .inr (.inl ⟨hm, h2, ?_⟩)
      simp [State.check, h1, h2]
  · refine .inl ⟨h1, ?_⟩
    unfold State.sumMatches at h1
    have h : byteAt s.rx (s.explen - 2) ≠ byteAt (crcBytes (s.rx.take (s.explen - 2))) 0
        ∨ byteAt s.rx (s.explen - 1) ≠ byteAt (crcBytes (s.rx.take (s.explen - 2))) 1 := by tauto
    simp [State.check, h]

@[simp] theorem crcBytes_length (bytes : List Byte) : (crcBytes bytes).length = 2 := rfl

@[simp] theorem buildFrame_length (a f : Byte) (p : List Byte) : (buildFrame a f p).length = p.length + 4 := by
  simp [buildFrame]

@[simp] theorem byteAt_nil (i : Nat) : byteAt [] i = 0x00#8 := rfl

theorem byteAt_of_lt {buf : List Byte} {i : Nat} (h : i < buf.length) : byteAt buf i = buf[i] := by
  simp [byteAt, h]

theorem byteAt_of_le {buf : List Byte} {i : Nat} (h : buf.length ≤ i) : byteAt buf i = 0x00#8 := by
  simp [byteAt, h]

theorem byteAt_append_left {xs ys : List Byte} {i : Nat} (h : i < xs.length) : byteAt (xs ++ ys) i = byteAt xs i := by
  simp [byteAt, List.getElem?_append_left h]

theorem byteAt_append_right (xs ys : List Byte) (i : Nat) : byteAt (xs ++ ys) (xs.length + i) = byteAt ys i := by
  simp [byteAt, List.getElem?_append_right]

theorem crcFrom_append (c : Word) (xs ys : List Byte) : crcFrom c (xs ++ ys) = crcFrom (crcFrom c xs) ys :=
  List.foldl_append

end Sys2Proof.Machine
end

