-- ==== Sys2Proof/Laws/Exec.lean ====
section
/-! SUPPORT. What a command can do, said once: nothing with a fault, CONCURRENT_USE while busy, and its own effect. -/

namespace Sys2Proof.Machine

/-- The effect of an enabled command, as the pairs of state before and after it. -/
def Effect (i : Instr) (s t : State) : Prop :=
  match i with
  | .crcInit => t = { s with crc := Config.crcInit }
  | .crcByte b => t = { s with crc := crcStep s.crc b }
  | .reqClear =>
    t = { s with reqAddr := 0x00#8, reqFunc := 0x00#8, addrSet := false, funcSet := false, paySet := false, payload := [], result := .ok, detail := 0x00#8 }
  | .reqAddr a =>
    (addrValid a = true ∧ t = { s with reqAddr := a, addrSet := true, result := .ok, detail := 0x00#8 })
      ∨ (addrValid a = false ∧ t = s.finish .invalidArgument a)
  | .reqFunc f =>
    (funcValid f = true ∧ t = { s with reqFunc := f, funcSet := true, result := .ok, detail := 0x00#8 })
      ∨ (funcValid f = false ∧ t = s.finish .invalidArgument f)
  | .reqPayloadBegin => t = { s with payload := [], paySet := true, result := .ok, detail := 0x00#8 }
  | .reqPayloadByte b =>
    (s.paySet = false ∧ t = s.finish .invalidState 0x04#8)
      ∨ (s.paySet = true ∧ s.plen = Config.maxPay ∧ t = s.finish .invalidArgument b)
      ∨ (s.paySet = true ∧ s.plen ≠ Config.maxPay ∧ t = { s with payload := s.payload ++ [b], result := .ok, detail := 0x00#8 })
  | .reqBuild =>
    (s.missing ≠ 0x00#8 ∧ t = s.finish .invalidState s.missing)
      ∨ (s.missing = 0x00#8 ∧ t = { s with tx := s.builderFrame, reqBuilt := true, result := .ok, detail := 0x00#8 })
  | .rspSetsize n =>
    (sizeValid n = true ∧ t = { s with vsize := n, rx := [], rspState := .none, result := .ok, detail := 0x00#8 })
      ∨ (sizeValid n = false ∧ t = s.finish .invalidArgument n)
  | .rspClear => t = { s with rx := [], rspState := .none, result := .ok, detail := 0x00#8 }
  | .rspByte b =>
    (s.rxlen = s.explen ∧ t = s.finish .invalidArgument b)
      ∨ (s.rxlen ≠ s.explen ∧ t = { s with rx := s.rx ++ [b], rspState := .none, result := .ok, detail := 0x00#8 })
  | .rspParse =>
    (s.rxlen < s.explen ∧ t = { s with rspState := .none, result := .malformedResponse, detail := lenByte s.rxlen })
      ∨ (s.explen ≤ s.rxlen ∧ t = { s with rspState := .parsed, result := .ok, detail := 0x00#8 })
  | .rspValidate =>
    (s.validateMissing ≠ 0x00#8 ∧ t = s.finish .invalidState s.validateMissing)
      ∨ (s.validateMissing = 0x00#8 ∧ t = s.conclude)
  | .sesTransact =>
    (s.transactMissing ≠ 0x00#8 ∧ t = s.finish .invalidState s.transactMissing)
      ∨ (s.transactMissing = 0x00#8 ∧
          t = { s with tx := s.builderFrame, reqBuilt := true, rx := [], rspState := .none, result := .none, detail := 0x00#8, busy := true, pending := some s.explen, txLog := s.txLog ++ [⟨s.builderFrame, s.explen⟩] })
  | .sesRelease => t = { s with xport := false, result := .ok, detail := 0x00#8 }

/-- A command of another family is a run of its own under the common check. -/
theorem exec_whenIdle {i : Instr} (hi : family i ≠ .crc) :
    ∃ run : State → State, (∀ s, exec i s = whenIdle s run) ∧ ∀ s, Effect i s (run s) := by
  cases i <;> simp only [family, ne_eq, not_true_eq_false, reduceCtorEq, not_false_eq_true] at hi
  all_goals refine ⟨_, fun s => rfl, fun s => ?_⟩
  case reqClear => rfl
  case reqAddr a => simp only [Effect]; split_ifs with h <;> simp_all [State.finish]
  case reqFunc f => simp only [Effect]; split_ifs with h <;> simp_all [State.finish]
  case reqPayloadBegin => rfl
  case reqPayloadByte b => simp only [Effect]; split_ifs with h h' <;> simp_all [State.finish]
  case reqBuild => simp only [Effect]; split_ifs with h <;> simp_all [State.finish, State.storeFrame]
  case rspSetsize n => simp only [Effect]; split_ifs with h <;> simp_all [State.finish, State.emptyRx]
  case rspClear => rfl
  case rspByte b => simp only [Effect]; split_ifs with h <;> simp_all [State.finish]
  case rspParse => simp only [Effect]; split_ifs with h <;> simp_all [State.finish]
  case rspValidate => simp only [Effect]; split_ifs with h <;> simp_all
  case sesTransact =>
    simp only [Effect]
    split_ifs with h
    · exact .inl ⟨h, rfl⟩
    · exact .inr ⟨not_not.1 h, rfl⟩
  case sesRelease => rfl

/-- A command of the CRC family is a run of its own unless the block is faulted. -/
theorem exec_whenNotFaulted {i : Instr} (hi : family i = .crc) :
    ∃ run : State → State, (∀ s, exec i s = whenNotFaulted s run) ∧ ∀ s, Effect i s (run s) := by
  cases i <;> simp only [family, reduceCtorEq] at hi
  all_goals exact ⟨_, fun s => rfl, fun s => rfl⟩

theorem exec_faulted (i : Instr) {s : State} (hf : s.fault = true) : exec i s = .next s := by
  by_cases hi : family i = .crc
  · obtain ⟨run, h, -⟩ := exec_whenNotFaulted hi
    simp [h, whenNotFaulted, hf]
  · obtain ⟨run, h, -⟩ := exec_whenIdle hi
    simp [h, whenIdle, hf]

theorem exec_busy {i : Instr} (hi : family i ≠ .crc) {s : State} (hf : s.fault = false) (hb : s.busy = true) :
    exec i s = .next (s.raiseFault .concurrentUse) := by
  obtain ⟨run, h, -⟩ := exec_whenIdle hi
  rw [h, whenIdle_busy hf hb]

theorem exec_enabled {i : Instr} {s : State} (hf : s.fault = false) (hb : s.busy = false ∨ family i = .crc) :
    ∃ t, exec i s = .next t ∧ Effect i s t := by
  by_cases hi : family i = .crc
  · obtain ⟨run, h, he⟩ := exec_whenNotFaulted hi
    exact ⟨run s, by rw [h, whenNotFaulted_enabled hf], he s⟩
  · obtain ⟨run, h, he⟩ := exec_whenIdle hi
    exact ⟨run s, by rw [h, whenIdle_enabled hf (hb.resolve_right hi)], he s⟩

/-- All a command can do. -/
theorem exec_cases {i : Instr} {s t : State} (h : exec i s = .next t) :
    (s.fault = true ∧ t = s)
      ∨ (s.fault = false ∧ s.busy = true ∧ family i ≠ .crc ∧ t = s.raiseFault .concurrentUse)
      ∨ (s.fault = false ∧ (s.busy = false ∨ family i = .crc) ∧ Effect i s t) := by
  cases hf : s.fault
  · right
    by_cases hb : s.busy = false ∨ family i = .crc
    · obtain ⟨u, hu, he⟩ := exec_enabled hf hb
      rw [h] at hu
      exact .inr ⟨rfl, hb, by cases hu; exact he⟩
    · push Not at hb
      have hb' : s.busy = true := by simpa using hb.1
      rw [exec_busy hb.2 hf hb'] at h
      exact .inl ⟨rfl, hb', hb.2, by cases h; rfl⟩
  · rw [exec_faulted i hf] at h
    exact .inl ⟨rfl, by cases h; rfl⟩

end Sys2Proof.Machine
end

