-- ==== Sys2Proof/Laws/PerInstr.lean ====
section
/-! SUPPORT. One statement per command about its syntax: its source line is well formed, and the assembler gives for that
line the word the encoder gives (spec/30_encoding.md R72, R76). -/

namespace Sys2Proof.Laws.AssembledAsEncoded

/-- The source line of a command is well formed and assembles to its encoding. -/
def Statement (i : Instr) : Prop := i.line.wellFormed = true ∧ assemble i.line = some (encode i)

theorem operand_le (b : Byte) : b.toNat ≤ 255 := by
  have := b.isLt
  omega

theorem op_shift_or (op b : Byte) :
    (BitVec.zeroExtend 16 op <<< 8) ||| BitVec.ofNat 16 b.toNat = (op ++ b : Word) := by
  have hb : BitVec.ofNat 16 b.toNat = BitVec.zeroExtend 16 b := by
    apply BitVec.eq_of_toNat_eq
    simp
  rw [hb]
  apply BitVec.eq_of_getLsbD_eq
  intro k hk
  simp only [BitVec.getLsbD_or, BitVec.getLsbD_shiftLeft, BitVec.getLsbD_append, BitVec.truncate_eq_setWidth,
    BitVec.getLsbD_setWidth]
  by_cases h : k < 8
  · simp [h, hk]
  · have h8 : 8 ≤ k := by omega
    have : k - 8 < 16 := by omega
    simp [h, hk, this, BitVec.getLsbD_of_ge b k h8]

theorem op_shift (op : Byte) : (BitVec.zeroExtend 16 op <<< 8) ||| BitVec.ofNat 16 0 = (op ++ 0x00#8 : Word) :=
  op_shift_or op 0x00#8

theorem crcInit : Statement .crcInit := ⟨rfl, congrArg some (op_shift 0x10#8)⟩

theorem crcByte (b : Byte) : Statement (.crcByte b) := by
  simp [Statement, AsmLine.wellFormed, Instr.line, Mnemonic.takesOperand, assemble, encode, Instr.imm,
    operand_le, -BitVec.truncate_eq_setWidth, -BitVec.ofNat_toNat, op_shift_or]

theorem reqClear : Statement .reqClear := ⟨rfl, congrArg some (op_shift 0x20#8)⟩

theorem reqAddr (a : Byte) : Statement (.reqAddr a) := by
  simp [Statement, AsmLine.wellFormed, Instr.line, Mnemonic.takesOperand, assemble, encode, Instr.imm,
    operand_le, -BitVec.truncate_eq_setWidth, -BitVec.ofNat_toNat, op_shift_or]

theorem reqFunc (f : Byte) : Statement (.reqFunc f) := by
  simp [Statement, AsmLine.wellFormed, Instr.line, Mnemonic.takesOperand, assemble, encode, Instr.imm,
    operand_le, -BitVec.truncate_eq_setWidth, -BitVec.ofNat_toNat, op_shift_or]

theorem reqPayloadBegin : Statement .reqPayloadBegin := ⟨rfl, congrArg some (op_shift 0x23#8)⟩

theorem reqPayloadByte (b : Byte) : Statement (.reqPayloadByte b) := by
  simp [Statement, AsmLine.wellFormed, Instr.line, Mnemonic.takesOperand, assemble, encode, Instr.imm,
    operand_le, -BitVec.truncate_eq_setWidth, -BitVec.ofNat_toNat, op_shift_or]

theorem reqBuild : Statement .reqBuild := ⟨rfl, congrArg some (op_shift 0x25#8)⟩

theorem rspSetsize (n : Byte) : Statement (.rspSetsize n) := by
  simp [Statement, AsmLine.wellFormed, Instr.line, Mnemonic.takesOperand, assemble, encode, Instr.imm,
    operand_le, -BitVec.truncate_eq_setWidth, -BitVec.ofNat_toNat, op_shift_or]

theorem rspClear : Statement .rspClear := ⟨rfl, congrArg some (op_shift 0x31#8)⟩

theorem rspByte (b : Byte) : Statement (.rspByte b) := by
  simp [Statement, AsmLine.wellFormed, Instr.line, Mnemonic.takesOperand, assemble, encode, Instr.imm,
    operand_le, -BitVec.truncate_eq_setWidth, -BitVec.ofNat_toNat, op_shift_or]

theorem rspParse : Statement .rspParse := ⟨rfl, congrArg some (op_shift 0x33#8)⟩

theorem rspValidate : Statement .rspValidate := ⟨rfl, congrArg some (op_shift 0x34#8)⟩

theorem sesTransact : Statement .sesTransact := ⟨rfl, congrArg some (op_shift 0x40#8)⟩

theorem sesRelease : Statement .sesRelease := ⟨rfl, congrArg some (op_shift 0x41#8)⟩

end Sys2Proof.Laws.AssembledAsEncoded
end

