-- ==== Sys2Proof/Laws/Step.lean ====
section
/-! SUPPORT. What one turn of each agent can do, said once, and what one step can be. -/

namespace Sys2Proof.Machine

/-- All the event NoResponse can do. -/
theorem takeNoResponse_cases (s : State) :
    (s.pending = none ∧ takeNoResponse s = s.raiseFirst .transportUnsolicited)
      ∨ (s.pending ≠ none ∧ s.fault = true ∧ takeNoResponse s = { s with pending := none })
      ∨ (s.pending ≠ none ∧ s.fault = false ∧
          takeNoResponse s = { s with pending := none, busy := false }.finish .noResponse 0x00#8) := by
  unfold takeNoResponse
  cases hp : s.pending <;> cases hf : s.fault <;> simp

/-- All the event Deliver can do. -/
theorem takeDelivery_cases (bytes : List Byte) (s : State) :
    (s.pending = none ∧ takeDelivery bytes s = s.raiseFirst .transportUnsolicited)
      ∨ (s.pending ≠ none ∧ s.fault = true ∧ takeDelivery bytes s = { s with pending := none })
      ∨ (∃ n, s.pending = some n ∧ s.fault = false ∧ n < bytes.length ∧
          takeDelivery bytes s = { s with pending := none }.raiseFault .transportOverrun)
      ∨ (∃ n, s.pending = some n ∧ s.fault = false ∧ bytes.length ≤ n ∧ bytes.length < s.explen ∧
          takeDelivery bytes s =
            { s with pending := none, busy := false, rx := bytes, rspState := .none }.finish
              .malformedResponse (lenByte bytes.length))
      ∨ (∃ n, s.pending = some n ∧ s.fault = false ∧ bytes.length ≤ n ∧ s.explen ≤ bytes.length ∧
          takeDelivery bytes s = { s with pending := none, busy := false, rx := bytes }.conclude) := by
  rcases hp : s.pending with _ | n
  · exact .inl ⟨rfl, by simp [takeDelivery, hp]⟩
  · right
    simp only [takeDelivery, hp]
    by_cases hf : s.fault = true
    · exact .inl ⟨by simp, hf, if_pos hf⟩
    · have hf' : s.fault = false := by simpa using hf
      rw [if_neg hf]
      by_cases hn : n < bytes.length
      · exact .inr (.inl ⟨n, rfl, hf', hn, if_pos hn⟩)
      · rw [if_neg hn]
        by_cases he : bytes.length < s.explen
        · exact .inr (.inr (.inl ⟨n, rfl, hf', by omega, he, if_pos he⟩))
        · exact .inr (.inr (.inr ⟨n, rfl, hf', by omega, by omega, if_neg he⟩))

/-- What one step can be: nobody moves, the host runs a command, writes an illegal word, reads, waits or has nothing to
do, the transport answers, or the platform resets. -/
theorem step_cases {s t : State} (h : step s = .next t) :
    (s.turns = [] ∧ t = s)
      ∨ (∃ ts rest w i, s.turns = .host :: ts ∧ s.host = .write w :: rest ∧ decode w = .ok i ∧
          exec i { s with turns := ts, host := rest } = .next t)
      ∨ (∃ ts rest w e, s.turns = .host :: ts ∧ s.host = .write w :: rest ∧ decode w = .error e ∧
          t = { s with turns := ts, host := rest }.raiseFirst .illegalCommand)
      ∨ (∃ ts, s.turns = .host :: ts ∧ (∀ w, s.host.head? ≠ some (.write w)) ∧
          (t = { s with turns := ts } ∨ t = { s with turns := ts, host := s.host.tail }))
      ∨ (∃ ts a, s.turns = .answer a :: ts ∧ t = takeAnswer a { s with turns := ts })
      ∨ (∃ ts, s.turns = .reset :: ts ∧ t = { s with turns := ts }.resetBlock) := by
  unfold step at h
  rcases ht : s.turns with _ | ⟨turn, ts⟩ <;> simp only [ht] at h
  · exact .inl ⟨rfl, by simpa using h.symm⟩
  · right
    cases turn with
    | host =>
      simp only [takeTurn, hostTurn] at h
      rcases hh : s.host with _ | ⟨act, rest⟩ <;> simp only [hh] at h
      · exact .inr (.inr (.inl ⟨ts, rfl, by simp, .inl (by simpa using h.symm)⟩))
      · cases act with
        | write w =>
          simp only [writeCommand] at h
          rcases hd : decode w with e | i <;> simp only [hd] at h
          · exact .inr (.inl ⟨ts, rest, w, e, rfl, rfl, hd, by simpa using h.symm⟩)
          · exact .inl ⟨ts, rest, w, i, rfl, rfl, hd, h⟩
        | read a => exact .inr (.inr (.inl ⟨ts, rfl, by simp, .inr (by simpa using h.symm)⟩))
        | wait =>
          refine .inr (.inr (.inl ⟨ts, rfl, by simp, ?_⟩))
          have h := Host.Outcome.next.inj h
          split_ifs at h
          · exact .inl h.symm
          · exact .inr h.symm
    | answer a => exact .inr (.inr (.inr (.inl ⟨ts, a, rfl, by simpa [takeTurn] using h.symm⟩)))
    | reset => exact .inr (.inr (.inr (.inr ⟨ts, rfl, by simpa [takeTurn] using h.symm⟩)))

theorem runCommands_append (is js : List Instr) (s t : State) (h : runCommands is s = .next t) :
    runCommands (is ++ js) s = runCommands js t := by
  induction is generalizing s with
  | nil =>
    obtain rfl : s = t := by simpa [runCommands] using h
    rfl
  | cons i is ih =>
    simp only [runCommands, List.cons_append] at h ⊢
    cases he : exec i s with
    | next u => rw [he] at h; simpa using ih u h
    | fault r => rw [he] at h; simp at h
    | refused r => rw [he] at h; simp at h

end Sys2Proof.Machine
end

