-- ==== Sys2Proof/Tests/Slice0.lean ====
section
/-! SUPPORT. The model's own tests. Expected values come from the spec: the encodings of spec/30_encoding.md, the
vectors of 95_test_vectors.md (named V-... and P...), and the rules' own examples. Every `witness_<Name>` shows that the
hypotheses of the obligation of that name can be met together, each clause at a boundary of its range. -/

namespace Sys2Proof.Tests

open Sys2Proof Sys2Proof.Machine

/-! ## Helpers -/

/-- The bytes the host reads at these addresses after an outcome. -/
def readBack (o : Host.Outcome State Fault Refusal) (addrs : List ReadAddr) : List Byte :=
  match o with
  | .next t => addrs.map (readPort t)
  | .fault _ => []
  | .refused _ => []

/-- Whether an outcome is this next state. -/
def leadsTo (o : Host.Outcome State Fault Refusal) (t : State) : Bool :=
  match o with
  | .next u => decide (u = t)
  | .fault _ => false
  | .refused _ => false

/-- The builder of 95_test_vectors.md section 2.4: 11 / 03 / 00 6B 00 03, VSIZE 2. -/
def ready : State :=
  { State.reset with
    reqAddr := 0x11#8, reqFunc := 0x03#8, addrSet := true, funcSet := true, paySet := true,
    payload := [0x00#8, 0x6B#8, 0x00#8, 0x03#8], vsize := 0x02#8 }

/-- The frame of 95_test_vectors.md section 1.6. -/
def sampleFrame : List Byte := [0x11#8, 0x03#8, 0x00#8, 0x6B#8, 0x00#8, 0x03#8, 0x76#8, 0x87#8]

/-- The answer of V-RSP-1. -/
def sampleAnswer : List Byte := [0x11#8, 0x03#8, 0x00#8, 0x2A#8, 0x74#8, 0xC7#8]

/-- The block while the exchange of section 2.4 is in flight. -/
def inFlight : State :=
  { ready with
    tx := sampleFrame, reqBuilt := true, busy := true, pending := some 6, txLog := [⟨sampleFrame, 6⟩] }

/-- A request built, and these bytes received and parsed. -/
def parsed (rx : List Byte) : State :=
  { ready with tx := sampleFrame, reqBuilt := true, rx := rx, rspState := .parsed }

/-- A block that has faulted (V-FLT-11). -/
def faulted : State := { State.reset with fault := true, faultCode := .illegalCommand }

/-- A state whose next step is the host writing this word. -/
def writing (w : Word) (s : State) : State := { s with turns := [.host], host := [.write w] }

/-- A state whose next step is this answer. -/
def answering (a : Answer) (s : State) : State := { s with turns := [.answer a] }

/-- A state whose next step is a reset. -/
def resetting (s : State) : State := { s with turns := [.reset] }

/-! ## Assembler lines (R76): what the check refuses -/

theorem test_line_operand_missing : AsmLine.wellFormed ⟨.REQ_ADDR, none⟩ = false := by decide
theorem test_line_operand_superfluous : AsmLine.wellFormed ⟨.REQ_CLEAR, some 0⟩ = false := by decide
theorem test_line_operand_too_large : AsmLine.wellFormed ⟨.CRC_BYTE, some 256⟩ = false := by decide
theorem test_line_operand_largest : AsmLine.wellFormed ⟨.CRC_BYTE, some 255⟩ = true := by decide
theorem test_line_assembles : assemble ⟨.REQ_ADDR, some 17⟩ = some 0x2111#16 := by decide

/-! ## Decoding: words written out from R70 and R72 -/

theorem test_decode_crc_family :
    decode 0b0001000000000000#16 = .ok .crcInit ∧ decode 0b0001000110101011#16 = .ok (.crcByte 0xAB#8) := by decide

theorem test_decode_request_family :
    decode 0b0010000000000000#16 = .ok .reqClear ∧ decode 0b0010000111111000#16 = .ok (.reqAddr 0xF8#8)
      ∧ decode 0b0010001000000011#16 = .ok (.reqFunc 0x03#8) ∧ decode 0b0010001100000000#16 = .ok .reqPayloadBegin
      ∧ decode 0b0010010001101011#16 = .ok (.reqPayloadByte 0x6B#8) ∧ decode 0b0010010100000000#16 = .ok .reqBuild := by
  decide

theorem test_decode_response_family :
    decode 0b0011000000000010#16 = .ok (.rspSetsize 0x02#8) ∧ decode 0b0011000100000000#16 = .ok .rspClear
      ∧ decode 0b0011001010011001#16 = .ok (.rspByte 0x99#8) ∧ decode 0b0011001100000000#16 = .ok .rspParse
      ∧ decode 0b0011010000000000#16 = .ok .rspValidate := by decide

theorem test_decode_session_family :
    decode 0b0100000000000000#16 = .ok .sesTransact ∧ decode 0b0100000100000000#16 = .ok .sesRelease := by decide

/-- The edges of the reserved ranges of R73(a). -/
theorem test_decode_reserved_opcodes :
    [0x0000#16, 0x0FFF#16, 0x1200#16, 0x1FFF#16, 0x2600#16, 0x2FFF#16, 0x3500#16, 0x3FFF#16, 0x4200#16, 0xFFFF#16].all
      (fun w => match decode w with
        | .error (.reservedOpcode _) => true
        | _ => false) = true := by decide

/-- R73(b): each command without an operand, with the smallest and the largest operand. -/
theorem test_decode_operand_not_zero :
    [0x10#8, 0x20#8, 0x23#8, 0x25#8, 0x31#8, 0x33#8, 0x34#8, 0x40#8, 0x41#8].all
      (fun op => [0x01#8, 0xFF#8].all fun imm => decode (op ++ imm) = .error (.operandNotZero op imm)) = true := by decide

/-- No word lies in two rows of R72: the patterns of any two rows differ under their common mask. -/
theorem test_rows_do_not_overlap :
    [Mnemonic.CRC_INIT, .CRC_BYTE, .REQ_CLEAR, .REQ_ADDR, .REQ_FUNC, .REQ_PAYLOAD_BEGIN, .REQ_PAYLOAD_BYTE, .REQ_BUILD,
      .RSP_SETSIZE, .RSP_CLEAR, .RSP_BYTE, .RSP_PARSE, .RSP_VALIDATE, .SES_TRANSACT, .SES_RELEASE].Pairwise
      (fun m n => (m.opcode ++ 0x00#8 ^^^ n.opcode ++ 0x00#8 : Word) &&& m.mask &&& n.mask ≠ 0#16) := by decide

theorem test_table_word : decodeTableWord 16 0x2111 = some (.reqAddr 0x11#8) ∧ decodeTableWord 16 0x3500 = none := by
  decide

/-- The word stored by `withFetchWord` runs in the next step (V-CC-2). -/
theorem test_fetch_word : readBack (step (State.reset.withFetchWord 16 0x1111)) [0x005#12, 0x006#12] = [0x7F#8, 0x4C#8] := by
  decide

/-! ## CRC family -/

/-- V-STEP-1, V-STEP-2, V-STEP-4, V-STEP-5, V-STEP-6. -/
theorem test_crc_step :
    crcStep 0xFFFF#16 0x00#8 = 0x40BF#16 ∧ crcStep 0xFFFF#16 0xFF#8 = 0x00FF#16 ∧ crcStep 0x0001#16 0x00#8 = 0xC0C1#16
      ∧ crcStep 0xFFFF#16 0x11#8 = 0x4C7F#16 ∧ crcStep 0xFFFF#16 0x01#8 = 0x807E#16 := by decide

/-- V-CRC-1, V-CRC-4, V-CRC-7. -/
theorem test_crc16 :
    crc16 [] = 0xFFFF#16 ∧ crcBytes [0x12#8, 0x34#8] = [0x0C#8, 0xC7#8]
      ∧ crcBytes [0x31#8, 0x32#8, 0x33#8, 0x34#8, 0x35#8, 0x36#8, 0x37#8, 0x38#8, 0x39#8] = [0x37#8, 0x4B#8] := by decide +kernel

/-- R101: `compute` takes its range inclusive of both ends it names (V-CRC-5 with a byte before and behind). -/
theorem test_compute :
    compute ([0xAA#8] ++ sampleFrame) 1 6 = [0x76#8, 0x87#8] := by decide +kernel

/-- V-CC-1. -/
theorem test_crc_init :
    readBack (writeCommand 0x1000#16 { State.reset with crc := 0x1234#16 }) [0x005#12, 0x006#12] = [0xFF#8, 0xFF#8] := by
  decide

/-- V-CC-5. -/
theorem test_crc_init_operand :
    readBack (writeCommand 0x1001#16 State.reset) [0x000#12, 0x004#12, 0x006#12] = [0x0A#8, 0x01#8, 0xFF#8] := by decide

/-- V-CC-3. -/
theorem test_crc_byte :
    readBack (writeCommand 0x1100#16 { State.reset with result := .invalidArgument }) [0x001#12, 0x005#12, 0x006#12]
      = [0x03#8, 0xBF#8, 0x40#8] := by decide

/-- V-CC-4: while BUSY, without a fault. -/
theorem test_crc_byte_busy :
    readBack (writeCommand 0x1100#16 inFlight) [0x000#12, 0x005#12, 0x006#12] = [0x0D#8, 0xBF#8, 0x40#8] := by decide

/-! ## Request family -/

/-- V-REQ-16. -/
theorem test_req_clear :
    readBack (writeCommand 0x2000#16 { ready with tx := sampleFrame }) [0x001#12, 0x003#12, 0x007#12, 0x008#12, 0x009#12, 0x00A#12]
      = [0x01#8, 0x00#8, 0x00#8, 0x00#8, 0x00#8, 0x08#8] := by decide

/-- V-REQ-17. -/
theorem test_req_clear_operand :
    readBack (writeCommand 0x2001#16 State.reset) [0x000#12, 0x001#12, 0x004#12] = [0x0A#8, 0x00#8, 0x01#8] := by decide

/-- V-REQ-12. -/
theorem test_req_addr :
    readBack (writeCommand 0x21F7#16 ready) [0x001#12, 0x002#12, 0x007#12] = [0x01#8, 0x00#8, 0xF7#8] := by decide

/-- Section 1.5. -/
theorem test_req_addr_too_large :
    readBack (writeCommand 0x21F8#16 ready) [0x001#12, 0x002#12, 0x007#12] = [0x03#8, 0xF8#8, 0x11#8] := by decide

/-- V-REQ-14, V-REQ-15. -/
theorem test_req_func :
    readBack (writeCommand 0x227F#16 State.reset) [0x001#12, 0x003#12, 0x008#12] = [0x01#8, 0x02#8, 0x7F#8]
      ∧ readBack (writeCommand 0x2280#16 ready) [0x001#12, 0x002#12, 0x008#12] = [0x03#8, 0x80#8, 0x03#8] := by decide

/-- Section 1.5: function 0 refused. -/
theorem test_req_func_zero :
    readBack (writeCommand 0x2200#16 ready) [0x001#12, 0x002#12, 0x008#12] = [0x03#8, 0x00#8, 0x03#8] := by decide

/-- V-REQ-18. -/
theorem test_req_payload_begin :
    readBack (writeCommand 0x2300#16 ready) [0x001#12, 0x003#12, 0x009#12] = [0x01#8, 0x07#8, 0x00#8] := by decide

/-- V-REQ-10 and the rule's own example. -/
theorem test_req_payload_byte :
    readBack (writeCommand 0x2400#16 State.reset) [0x001#12, 0x002#12] = [0x04#8, 0x04#8]
      ∧ readBack (writeCommand 0x246B#16 { State.reset with paySet := true }) [0x001#12, 0x009#12, 0x100#12]
        = [0x01#8, 0x01#8, 0x6B#8] := by decide

/-- V-REQ-11. -/
theorem test_req_payload_byte_full :
    readBack (writeCommand 0x24BB#16 { ready with payload := List.replicate 252 0x00#8 }) [0x001#12, 0x002#12, 0x009#12]
      = [0x03#8, 0xBB#8, 0xFC#8] := by decide +kernel

/-- V-REQ-1. -/
theorem test_req_build :
    readBack (writeCommand 0x2500#16 ready) [0x001#12, 0x00A#12, 0x00B#12, 0x200#12, 0x205#12, 0x206#12, 0x207#12, 0x208#12]
      = [0x01#8, 0x08#8, 0x00#8, 0x11#8, 0x03#8, 0x76#8, 0x87#8, 0x00#8] := by decide +kernel

/-- V-REQ-7, V-REQ-8. -/
theorem test_req_build_missing :
    readBack (writeCommand 0x2500#16 State.reset) [0x001#12, 0x002#12] = [0x04#8, 0x07#8]
      ∧ readBack (writeCommand 0x2500#16 { ready with paySet := false }) [0x001#12, 0x002#12] = [0x04#8, 0x04#8] := by decide

/-! ## Response family -/

/-- V-RSP-13. -/
theorem test_rsp_setsize :
    readBack (writeCommand 0x30FC#16 State.reset) [0x001#12, 0x00C#12, 0x00D#12, 0x00E#12] = [0x01#8, 0xFC#8, 0x00#8, 0x01#8] := by
  decide

/-- V-RSP-12, V-RSP-18. -/
theorem test_rsp_setsize_edges :
    readBack (writeCommand 0x30FD#16 State.reset) [0x001#12, 0x002#12, 0x00C#12] = [0x03#8, 0xFD#8, 0x00#8]
      ∧ readBack (writeCommand 0x3003#16 (parsed sampleAnswer)) [0x000#12, 0x00C#12, 0x00F#12] = [0x0C#8, 0x03#8, 0x00#8] := by
  decide

/-- V-RSP-16. -/
theorem test_rsp_clear :
    readBack (writeCommand 0x3100#16 { parsed sampleAnswer with rspState := .valid }) [0x000#12, 0x001#12, 0x00F#12, 0x011#12]
      = [0x0C#8, 0x01#8, 0x00#8, 0x00#8] := by decide

/-- The rule's own example (R142). -/
theorem test_rsp_byte :
    readBack (writeCommand 0x3258#16 { ready with rx := [0x11#8, 0x03#8, 0x00#8, 0x2A#8, 0x74#8] }) [0x001#12, 0x00F#12, 0x305#12]
      = [0x01#8, 0x06#8, 0x58#8] := by decide

/-- V-RSP-17. -/
theorem test_rsp_byte_full :
    readBack (writeCommand 0x3211#16 (parsed sampleAnswer)) [0x000#12, 0x001#12, 0x002#12, 0x00F#12]
      = [0x1C#8, 0x03#8, 0x11#8, 0x06#8] := by decide

/-- V-RSP-8 and the parse of V-RSP-1. -/
theorem test_rsp_parse :
    readBack (writeCommand 0x3300#16 { ready with rx := [0x11#8, 0x03#8, 0x00#8, 0x2A#8] }) [0x000#12, 0x001#12, 0x002#12]
        = [0x08#8, 0x05#8, 0x04#8]
      ∧ readBack (writeCommand 0x3300#16 { ready with rx := sampleAnswer }) [0x000#12, 0x001#12, 0x011#12, 0x401#12, 0x402#12, 0x013#12, 0x014#12]
        = [0x18#8, 0x01#8, 0x11#8, 0x2A#8, 0x00#8, 0x74#8, 0xC7#8] := by decide

/-- V-RSP-1, V-RSP-2, V-RSP-3. -/
theorem test_rsp_validate :
    readBack (writeCommand 0x3400#16 (parsed sampleAnswer)) [0x000#12, 0x001#12, 0x002#12] = [0x2C#8, 0x01#8, 0x00#8]
      ∧ readBack (writeCommand 0x3400#16 (parsed [0x12#8, 0x03#8, 0x00#8, 0x2A#8, 0x74#8, 0x83#8])) [0x000#12, 0x001#12, 0x002#12]
        = [0x0C#8, 0x07#8, 0x11#8]
      ∧ readBack (writeCommand 0x3400#16 (parsed [0x11#8, 0x04#8, 0x00#8, 0x2A#8, 0xC5#8, 0x06#8])) [0x000#12, 0x001#12, 0x002#12]
        = [0x0C#8, 0x08#8, 0x03#8] := by decide +kernel

/-- V-RSP-5, V-RSP-7 (checksum before address), V-RSP-15. -/
theorem test_rsp_validate_refuses :
    readBack (writeCommand 0x3400#16 (parsed [0x11#8, 0x03#8, 0x00#8, 0x2A#8, 0x74#8, 0x47#8])) [0x000#12, 0x001#12] = [0x0C#8, 0x06#8]
      ∧ readBack (writeCommand 0x3400#16 (parsed [0x12#8, 0x03#8, 0x00#8, 0x2A#8, 0x75#8, 0x83#8])) [0x001#12] = [0x06#8]
      ∧ readBack (writeCommand 0x3400#16 State.reset) [0x001#12, 0x002#12] = [0x04#8, 0x30#8] := by decide +kernel

/-! ## Session family, transport, faults, reset -/

/-- Section 2.4: STATUS, RESULT, and the state SES_TRANSACT leaves. -/
theorem test_ses_transact :
    readBack (writeCommand 0x4000#16 ready) [0x000#12, 0x001#12, 0x00A#12, 0x207#12] = [0x0D#8, 0x00#8, 0x08#8, 0x87#8]
      ∧ leadsTo (writeCommand 0x4000#16 ready) inFlight = true := by decide +kernel

/-- V-SES-8, V-SES-9. -/
theorem test_ses_transact_refuses :
    readBack (writeCommand 0x4000#16 State.reset) [0x000#12, 0x001#12, 0x002#12] = [0x08#8, 0x04#8, 0x07#8]
      ∧ readBack (writeCommand 0x4000#16 { ready with xport := false }) [0x001#12, 0x002#12] = [0x04#8, 0x40#8] := by decide

/-- V-SES-11, both times. -/
theorem test_ses_release :
    readBack (writeCommand 0x4100#16 State.reset) [0x000#12, 0x001#12] = [0x00#8, 0x01#8]
      ∧ readBack (writeCommand 0x4100#16 { State.reset with xport := false }) [0x000#12, 0x001#12] = [0x00#8, 0x01#8] := by decide

/-- V-SES-1, V-SES-2, V-SES-3. -/
theorem test_answers :
    readBack (step (answering (.deliver sampleAnswer) inFlight)) [0x000#12, 0x001#12, 0x00F#12] = [0x2C#8, 0x01#8, 0x06#8]
      ∧ readBack (step (answering .noResponse inFlight)) [0x000#12, 0x001#12, 0x00F#12] = [0x0C#8, 0x02#8, 0x00#8]
      ∧ readBack (step (answering (.deliver []) inFlight)) [0x000#12, 0x001#12, 0x002#12] = [0x0C#8, 0x05#8, 0x00#8] := by decide +kernel

/-- V-SES-7, V-FLT-9, P7a, P7b. -/
theorem test_answers_beside_the_rule :
    readBack (step (answering (.deliver (sampleAnswer ++ [0x00#8])) inFlight)) [0x000#12, 0x004#12, 0x00F#12] = [0x0F#8, 0x03#8, 0x00#8]
      ∧ readBack (step (answering (.deliver [0x01#8]) State.reset)) [0x004#12] = [0x04#8]
      ∧ readBack (step (answering (.deliver [0x11#8, 0x83#8, 0x02#8, 0xC1#8, 0x34#8])
          { inFlight with vsize := 0x01#8, pending := some 5 })) [0x000#12, 0x001#12, 0x002#12] = [0x0C#8, 0x08#8, 0x03#8]
      ∧ readBack (step (answering (.deliver [0x11#8, 0x83#8, 0x02#8, 0xC1#8, 0x34#8]) inFlight)) [0x001#12, 0x002#12]
        = [0x05#8, 0x05#8] := by decide +kernel

/-- V-FLT-5, V-FLT-7, V-FLT-12. -/
theorem test_precedence :
    readBack (writeCommand 0x4000#16 inFlight) [0x000#12, 0x004#12] = [0x0F#8, 0x02#8]
      ∧ readBack (writeCommand 0x3500#16 inFlight) [0x004#12] = [0x01#8]
      ∧ readBack (writeCommand 0x1000#16 { faulted with crc := 0x1234#16 }) [0x004#12, 0x006#12] = [0x01#8, 0x12#8] := by decide

/-- R240, C3: a reset in mid-exchange clears BUSY and the builder, and keeps TXLOG. -/
theorem test_reset :
    readBack (step (resetting inFlight)) [0x000#12, 0x003#12, 0x00C#12] = [0x08#8, 0x00#8, 0x00#8]
      ∧ leadsTo (step (resetting inFlight)) { State.reset with txLog := [⟨sampleFrame, 6⟩] } = true := by decide

/-- R161: the call's return for V-SES-1, and for V-SES-2. -/
theorem test_call_return :
    (takeAnswer (.deliver sampleAnswer) inFlight).callReturn = some (.response 0x11#8 0x03#8 [0x00#8, 0x2A#8])
      ∧ (takeAnswer .noResponse inFlight).callReturn = some .noResponse := by decide +kernel

/-! ## Witnesses -/

theorem eq_of_leadsTo {o : Host.Outcome State Fault Refusal} {t : State} (h : leadsTo o t = true) : o = .next t := by
  cases o with
  | next u => simpa [leadsTo] using h
  | fault r => cases r
  | refused r => simp [leadsTo] at h

/-- The checksum clause of a validation with six bytes expected. -/
abbrev sumRight (rx : List Byte) : Prop :=
  rx.getD 4 0x00#8 = (crc16 (rx.take 4)).extractLsb' 0 8 ∧ rx.getD 5 0x00#8 = (crc16 (rx.take 4)).extractLsb' 8 8

/-- An idle block, a busy one, and a wrong operand byte for a command without one. -/
def idleAndBusy : Prop :=
  (ready.fault = false ∧ ready.busy = false) ∧ (inFlight.fault = false ∧ inFlight.busy = true) ∧ (0x01#8 : Byte) ≠ 0x00#8

theorem idle_and_busy : idleAndBusy := by unfold idleAndBusy; decide

theorem witness_OpcodeMapRowsAreTheDecoder :
    decode 0x1111#16 = .ok (.crcByte 0x11#8) ∧ decode 0x4100#16 = .ok .sesRelease := by decide

theorem witness_DecodeEncodeAgree :
    decode 0x2111#16 = .ok (.reqAddr 0x11#8) := by decide

theorem witness_IllegalWordsFault :
    [0x0F00#16, 0x1200#16, 0x1F00#16, 0x2600#16, 0x2F00#16, 0x3500#16, 0x3F00#16, 0x4200#16, 0xFF00#16].map (fun w => w.toNat / 256)
      = [0x0F, 0x12, 0x1F, 0x26, 0x2F, 0x35, 0x3F, 0x42, 0xFF]
    ∧ (0x1001#16 : Word).toNat / 256 = 0x10 ∧ (0x1001#16 : Word).toNat % 256 ≠ 0 ∧ State.reset.fault = false := by decide

theorem witness_AssemblerAgreesWithDecoder :
    AsmLine.wellFormed ⟨.RSP_BYTE, some 255⟩ = true ∧ AsmLine.wellFormed ⟨.RSP_BYTE, some 256⟩ = false := by decide

theorem witness_StepRunsDecodedCommand :
    (writing 0x2111#16 ready).turns = .host :: [] ∧ (writing 0x2111#16 ready).host = .write 0x2111#16 :: []
      ∧ decode 0x2111#16 = .ok (.reqAddr 0x11#8) := by decide

theorem witness_CommandCheckOrder :
    faulted.fault = true ∧ (inFlight.fault = false ∧ decode 0x3500#16 = .error (.reservedOpcode 0x35#8))
      ∧ (decode 0x4000#16 = .ok .sesTransact ∧ inFlight.busy = true ∧ family .sesTransact ≠ .crc)
      ∧ (decode 0x1100#16 = .ok (.crcByte 0x00#8) ∧ family (.crcByte 0x00#8) = .crc)
      ∧ (ready.fault = false ∧ ready.busy = false) := by decide

theorem witness_FaultedBlockIsQuiescent :
    (answering .noResponse { faulted with pending := some 6 }).fault = true
      ∧ ¬ (answering .noResponse { faulted with pending := some 6 }).resetsNext
      ∧ step (answering .noResponse { faulted with pending := some 6 }) = .next faulted := ⟨rfl, by decide, rfl⟩

/-- One state for each cause; the fault flags before and after are 0 and 1. -/
theorem witness_FaultsHaveTheirCauses :
    step (writing 0x0000#16 State.reset) = .next faulted
      ∧ step (writing 0x2111#16 inFlight) = .next { inFlight with fault := true, faultCode := .concurrentUse }
      ∧ step (answering (.deliver (sampleAnswer ++ [0x00#8])) inFlight)
        = .next { inFlight with fault := true, faultCode := .transportOverrun, pending := none }
      ∧ step (answering .noResponse State.reset)
        = .next { State.reset with fault := true, faultCode := .transportUnsolicited } := 
  ⟨eq_of_leadsTo (by decide), eq_of_leadsTo (by decide), eq_of_leadsTo (by decide), eq_of_leadsTo (by decide)⟩

theorem witness_CrcCommandsUpdateTheAccumulator :
    inFlight.fault = false ∧ faulted.fault = true ∧ (0x01#8 : Byte) ≠ 0x00#8 := by decide

theorem witness_CrcStreamComputesChecksum :
    inFlight.fault = false := by decide

theorem witness_CrcStepIsLinearAndInjective :
    crcStep 0xFFFF#16 0x11#8 = crcStep 0xFFFF#16 0x11#8 := rfl

theorem witness_ChecksummedBytesLeaveZero :
    State.reset.fault = false := rfl

/-- V-RSP-4 and V-RSP-5, the first flip of a bit 0 and the last flip of a bit 7 of the checksum. -/
theorem witness_SingleBitFlipIsDataCorrupted :
    (sampleAnswer.take 4).length = (parsed []).vsize.toNat + 2 ∧ sampleAnswer = sampleAnswer.take 4 ++ crcBytes (sampleAnswer.take 4)
      ∧ [0x11#8, 0x03#8, 0x00#8, 0x2A#8, 0x74#8, 0x47#8] = sampleAnswer.set 5 (byteAt sampleAnswer 5 ^^^ (0x01#8 <<< 7))
      ∧ [0x11#8, 0x03#8, 0x00#8, 0x2B#8, 0x74#8, 0xC7#8] = sampleAnswer.set 3 (byteAt sampleAnswer 3 ^^^ (0x01#8 <<< 0))
      ∧ (parsed sampleAnswer).busy = false ∧ (parsed sampleAnswer).reqBuilt = true ∧ (parsed sampleAnswer).rspState = .parsed
      ∧ inFlight.pending = some (inFlight.vsize.toNat + 4) ∧ inFlight.fault = false := by decide +kernel

theorem witness_CrcWrittenOnlyByItsFamily :
    step (writing 0x1100#16 inFlight) = .next { inFlight with crc := 0x40BF#16 }
      ∧ ¬ (writing 0x1100#16 inFlight).resetsNext ∧ (0x40BF#16 : Word) ≠ inFlight.crc
      ∧ step (writing 0x1000#16 { ready with crc := 0x1234#16 }) = .next ready := ⟨eq_of_leadsTo (by decide), by decide, by decide, rfl⟩

theorem witness_CrcIsIndependentOfTheRest :
    family .reqPayloadBegin ≠ .crc ∧ exec .sesTransact ready = .next inFlight := ⟨by decide, eq_of_leadsTo (by decide +kernel)⟩

theorem witness_CrcCommandsCommuteWithAnswers :
    family (.crcByte 0x00#8) = .crc ∧ answerAbides (.deliver sampleAnswer) inFlight = true ∧ answerAbides .noResponse inFlight = true := by decide

theorem witness_ReqClearEmptiesTheBuilder :
    idleAndBusy := idle_and_busy

theorem witness_ReqPayloadBeginStartsEmpty :
    idleAndBusy := idle_and_busy

theorem witness_ReqAddrSetsOrRejects :
    idleAndBusy ∧ (0x00#8 : Byte).toNat ≤ 247 ∧ (0xF7#8 : Byte).toNat = 247 ∧ 247 < (0xF8#8 : Byte).toNat := ⟨idle_and_busy, by decide⟩

theorem witness_ReqFuncSetsOrRejects :
    idleAndBusy ∧ 1 ≤ (0x01#8 : Byte).toNat ∧ (0x7F#8 : Byte).toNat ≤ 127 ∧ (0x00#8 : Byte).toNat < 1 ∧ 127 < (0x80#8 : Byte).toNat := ⟨idle_and_busy, by decide⟩

theorem witness_ReqPayloadByteAppendsOrRejects :
    idleAndBusy ∧ State.reset.busy = false ∧ State.reset.paySet = false
      ∧ ready.paySet = true ∧ (List.replicate 251 0x00#8).length ≠ 252 ∧ (List.replicate 252 0x00#8).length = 252 := ⟨idle_and_busy, by decide +kernel⟩

theorem witness_ReqBuildStoresTheFrame :
    idleAndBusy ∧ (ready.addrSet = true ∧ ready.funcSet = true ∧ ready.paySet = true) ∧ State.reset.addrSet = false := ⟨idle_and_busy, by decide⟩

theorem witness_RequestCommandsFrame :
    family .reqPayloadBegin = .request ∧ exec .reqPayloadBegin ready = .next { ready with payload := [], result := .ok }
      ∧ exec (.reqPayloadByte 0xFF#8) ready = .next { ready with payload := ready.payload ++ [0xFF#8], result := .ok }
      ∧ exec .reqBuild ready = .next { ready with tx := sampleFrame, reqBuilt := true, result := .ok }
      ∧ (0x00C ≤ (0x00C#12 : ReadAddr).toNat ∧ (0x014#12 : ReadAddr).toNat ≤ 0x014) ∧ 0x300 ≤ (0x300#12 : ReadAddr).toNat :=
  ⟨rfl, rfl, rfl, eq_of_leadsTo (by decide +kernel), by decide⟩

theorem witness_RspSetsizeSetsOrRejects :
    idleAndBusy ∧ (0xFC#8 : Byte).toNat ≤ 252 ∧ 252 < (0xFD#8 : Byte).toNat := ⟨idle_and_busy, by decide⟩

theorem witness_RspClearEmptiesTheWindow :
    idleAndBusy := idle_and_busy

theorem witness_RspByteAppendsOrRejects :
    idleAndBusy ∧ (parsed sampleAnswer).busy = false ∧ (parsed sampleAnswer).rx.length = (parsed sampleAnswer).vsize.toNat + 4
      ∧ ready.rx.length ≠ ready.vsize.toNat + 4 := ⟨idle_and_busy, by decide⟩

theorem witness_RspParseIsStructural :
    idleAndBusy ∧ (parsed (sampleAnswer.take 5)).rx.length < (parsed []).vsize.toNat + 4
      ∧ (parsed []).vsize.toNat + 4 ≤ (parsed sampleAnswer).rx.length := ⟨idle_and_busy, by decide⟩

/-- V-RSP-1, V-RSP-5, V-RSP-2, V-RSP-3: one answer for each outcome. -/
theorem witness_RspValidateChecksInOrder :
    idleAndBusy ∧ ¬ (State.reset.reqBuilt = true ∧ State.reset.rspState = .parsed)
      ∧ (parsed sampleAnswer).reqBuilt = true ∧ (parsed sampleAnswer).rspState = .parsed ∧ sumRight sampleAnswer
      ∧ (parsed sampleAnswer).rx.length = (parsed sampleAnswer).vsize.toNat + 4 ∧ 4 ≤ (parsed sampleAnswer).tx.length
      ∧ byteAt sampleAnswer 0 = byteAt sampleFrame 0 ∧ byteAt sampleAnswer 1 = byteAt sampleFrame 1
      ∧ ¬ sumRight [0x11#8, 0x03#8, 0x00#8, 0x2A#8, 0x74#8, 0x47#8]
      ∧ sumRight [0x12#8, 0x03#8, 0x00#8, 0x2A#8, 0x74#8, 0x83#8] ∧ (0x12#8 : Byte) ≠ byteAt sampleFrame 0
      ∧ sumRight [0x11#8, 0x04#8, 0x00#8, 0x2A#8, 0xC5#8, 0x06#8] ∧ (0x04#8 : Byte) ≠ byteAt sampleFrame 1 := ⟨idle_and_busy, by decide +kernel⟩

theorem witness_ResponseCommandsFrame :
    family .rspClear = .response ∧ exec .rspClear (parsed sampleAnswer)
      = .next { parsed [] with rspState := .none, result := .ok } ∧ (0x2FF#12 : ReadAddr).toNat < 0x300 := ⟨rfl, rfl, by decide⟩

theorem witness_ValidOnlyAfterAllChecks :
    (writing 0x3400#16 (parsed sampleAnswer)).ResponseInv ∧ (writing 0x3400#16 (parsed sampleAnswer)).ExchangeInv
      ∧ step (writing 0x3400#16 (parsed sampleAnswer)) = .next { parsed sampleAnswer with rspState := .valid, result := .ok }
      ∧ (parsed sampleAnswer).rspState ≠ .valid := ⟨by decide +kernel, by decide +kernel, eq_of_leadsTo (by decide +kernel), by decide⟩

theorem witness_SesTransactTransmitsTheFrame :
    idleAndBusy ∧ (ready.addrSet = true ∧ ready.funcSet = true ∧ ready.paySet = true ∧ ready.xport = true)
      ∧ State.reset.addrSet = false ∧ { ready with xport := false }.xport = false := ⟨idle_and_busy, by decide⟩

theorem witness_SesReleaseClearsTheTransport :
    idleAndBusy ∧ exec .sesRelease ready = .next { ready with xport := false, result := .ok }
      ∧ { ready with xport := false }.xport = false ∧ family .reqBuild ≠ .session
      ∧ exec .reqBuild ready = .next { ready with tx := sampleFrame, reqBuilt := true, result := .ok } := ⟨idle_and_busy, rfl, rfl, by decide, eq_of_leadsTo (by decide +kernel)⟩

theorem witness_TransportComesBackOnlyByReset :
    step (writing 0x4100#16 ready) = .next { ready with xport := false, result := .ok }
      ∧ step (resetting { ready with xport := false }) = .next State.reset ∧ State.reset.xport ≠ false := ⟨rfl, rfl, by decide⟩

theorem witness_NoResponseEndsTheExchange :
    (answering .noResponse inFlight).turns = .answer .noResponse :: [] ∧ inFlight.pending = some 6 ∧ inFlight.fault = false
      ∧ { inFlight with fault := true }.fault = true := by decide

/-- V-SES-1, V-SES-6, V-SES-4, V-SES-5: one delivery for each outcome, and the longest short one. -/
theorem witness_DeliveryIsParsedAndValidated :
    (answering (.deliver sampleAnswer) inFlight).turns = .answer (.deliver sampleAnswer) :: [] ∧ inFlight.pending = some 6
      ∧ sampleAnswer.length ≤ 6 ∧ sampleAnswer.length = inFlight.vsize.toNat + 4 ∧ 4 ≤ inFlight.tx.length
      ∧ (sampleAnswer.take 5).length < inFlight.vsize.toNat + 4 ∧ inFlight.fault = false ∧ { inFlight with fault := true }.fault = true
      ∧ sumRight sampleAnswer ∧ byteAt sampleAnswer 0 = byteAt inFlight.tx 0
      ∧ byteAt sampleAnswer 1 = byteAt inFlight.tx 1
      ∧ ¬ sumRight [0x11#8, 0x03#8, 0x00#8, 0x2B#8, 0x74#8, 0xC7#8]
      ∧ sumRight [0x12#8, 0x03#8, 0x00#8, 0x2A#8, 0x74#8, 0x83#8] ∧ (0x12#8 : Byte) ≠ byteAt inFlight.tx 0
      ∧ sumRight [0x11#8, 0x04#8, 0x00#8, 0x2A#8, 0xC5#8, 0x06#8] ∧ (0x04#8 : Byte) ≠ byteAt inFlight.tx 1 := by decide +kernel

theorem witness_ContractViolationsFault :
    (answering (.deliver (sampleAnswer ++ [0x00#8])) inFlight).turns = .answer (.deliver (sampleAnswer ++ [0x00#8])) :: []
      ∧ inFlight.pending = some 6 ∧ 6 < (sampleAnswer ++ [0x00#8]).length ∧ inFlight.fault = false
      ∧ (answering .noResponse faulted).turns = .answer .noResponse :: [] ∧ faulted.pending = none ∧ faulted.fault = true := by decide

theorem witness_SessionFrame :
    family .sesRelease = .session ∧ exec .sesTransact ready = .next inFlight ∧ (0x1FF#12 : ReadAddr).toNat < 0x200 := ⟨rfl, eq_of_leadsTo (by decide +kernel), by decide⟩

theorem witness_OneExchangeInFlight :
    step (writing 0x4000#16 ready) = .next inFlight ∧ step (writing 0x1000#16 inFlight) = .next inFlight := ⟨eq_of_leadsTo (by decide +kernel), eq_of_leadsTo (by decide)⟩

theorem witness_ResetSetsEveryElement :
    (resetting inFlight).resetsNext ∧ (resetting faulted).resetsNext := by decide

/-- The invariant holds of the block in flight, where every group says something. -/
theorem inFlight_inv : inFlight.Inv :=
  ⟨by decide, by decide +kernel, by decide +kernel, by decide +kernel, by decide, by decide +kernel⟩

theorem witness_EveryStepKeepsInvariant :
    (answering (.deliver sampleAnswer) inFlight).Inv
      ∧ step (answering (.deliver sampleAnswer) inFlight)
        = .next { inFlight with busy := false, pending := none, rx := sampleAnswer, rspState := .valid, result := .ok } := 
  ⟨⟨inFlight_inv.1, inFlight_inv.2, inFlight_inv.3, inFlight_inv.4, inFlight_inv.5, inFlight_inv.6⟩,
    eq_of_leadsTo (by decide +kernel)⟩

theorem witness_EveryStepKeepsDetailRule :
    (answering .noResponse inFlight).Inv ∧ (answering .noResponse inFlight).DetailInv
      ∧ step (answering .noResponse inFlight)
        = .next { inFlight with busy := false, pending := none, result := .noResponse } := 
  ⟨⟨inFlight_inv.1, inFlight_inv.2, inFlight_inv.3, inFlight_inv.4, inFlight_inv.5, inFlight_inv.6⟩, by decide +kernel, rfl⟩

theorem witness_RejectedCommandWritesNothingElse :
    family (.reqAddr 0xF8#8) ≠ .crc ∧ ready.fault = false ∧ ready.busy = false
      ∧ exec (.reqAddr 0xF8#8) ready = .next { ready with result := .invalidArgument, detail := 0xF8#8 }
      ∧ exec .reqBuild State.reset = .next { State.reset with result := .invalidState, detail := 0x07#8 } := ⟨by decide, rfl, rfl, rfl, rfl⟩

theorem witness_ResultWrittenOnlyByOutcomes :
    step (answering .noResponse inFlight) = .next { inFlight with busy := false, pending := none, result := .noResponse }
      ∧ ResultCode.noResponse ≠ inFlight.result := ⟨rfl, by decide⟩

theorem witness_TxAndVsizeHaveOneWriter :
    step (writing 0x2500#16 ready) = .next { ready with tx := sampleFrame, reqBuilt := true, result := .ok }
      ∧ ¬ (writing 0x2500#16 ready).resetsNext ∧ sampleFrame ≠ ready.tx
      ∧ step (writing 0x3003#16 ready) = .next { ready with vsize := 0x03#8, result := .ok } ∧ (0x03#8 : Byte) ≠ ready.vsize := 
  ⟨eq_of_leadsTo (by decide +kernel), by decide, by decide, rfl, by decide⟩

theorem witness_ReadMapRegisters :
    (List.replicate 252 0x00#8).length ≤ 255 ∧ sampleFrame.length ≤ 65535 ∧ (List.replicate 256 0x00#8).length ≤ 65535 := by
  decide +kernel

theorem witness_ResponseViewsAreGated :
    inFlight.rspState = .none ∧ (parsed sampleAnswer).rspState ≠ .none
      ∧ (parsed sampleAnswer).rx.length = (parsed sampleAnswer).vsize.toNat + 4
      ∧ (0x01#8 : Byte).toNat < (parsed sampleAnswer).vsize.toNat ∧ (parsed sampleAnswer).vsize.toNat ≤ (0x02#8 : Byte).toNat := by decide

theorem witness_BufferWindowsReadTheirBytes :
    (0x03#8 : Byte).toNat < ready.payload.length ∧ ready.payload.length ≤ (0x04#8 : Byte).toNat
      ∧ (0x07#8 : Byte).toNat < inFlight.tx.length ∧ inFlight.tx.length ≤ (0x08#8 : Byte).toNat
      ∧ (0x05#8 : Byte).toNat < (parsed sampleAnswer).rx.length ∧ (parsed sampleAnswer).rx.length ≤ (0x06#8 : Byte).toNat := by decide

theorem witness_ReadsHaveNoEffect :
    { ready with turns := [.host], host := [.read 0x000#12] }.turns = .host :: []
      ∧ { ready with turns := [.host], host := [.read 0x000#12] }.host = .read 0x000#12 :: []
      ∧ (0x015 ≤ (0x015#12 : ReadAddr).toNat ∧ (0x0FF#12 : ReadAddr).toNat ≤ 0x0FF) ∧ 0x500 ≤ (0x500#12 : ReadAddr).toNat := by decide

theorem witness_WaitHoldsWhileBusy :
    { inFlight with turns := [.host], host := [.wait] }.turns = .host :: []
      ∧ { inFlight with turns := [.host], host := [.wait] }.host = .wait :: [] ∧ inFlight.busy = true ∧ ready.busy = false := by decide

theorem witness_SendTransmitsItsArguments :
    (ready.fault = false ∧ ready.busy = false ∧ ready.xport = true) ∧ (0xF7#8 : Byte).toNat ≤ 247
      ∧ 1 ≤ (0x01#8 : Byte).toNat ∧ (0x7F#8 : Byte).toNat ≤ 127 ∧ (List.replicate 252 0xFF#8).length ≤ 252 := by decide +kernel

theorem witness_EchoedExchangeReturnsTheValue :
    (ready.fault = false ∧ ready.busy = false ∧ ready.xport = true)
      ∧ (ready.addrSet = true ∧ ready.funcSet = true ∧ ready.paySet = true) ∧ [0x00#8, 0x2A#8].length = ready.vsize.toNat := by decide

theorem witness_MismatchIsNotCorruption :
    inFlight.fault = false ∧ inFlight.pending = some (inFlight.vsize.toNat + 4) ∧ [0x00#8, 0x2A#8].length = inFlight.vsize.toNat
      ∧ (0x12#8 : Byte) ≠ byteAt inFlight.tx 0 ∧ (0x11#8 : Byte) = byteAt inFlight.tx 0 ∧ (0x83#8 : Byte) ≠ byteAt inFlight.tx 1 := by decide

theorem witness_HostFedEqualsTransportFed :
    (ready.fault = false ∧ ready.busy = false ∧ ready.xport = true)
      ∧ (ready.addrSet = true ∧ ready.funcSet = true ∧ ready.paySet = true) ∧ sampleAnswer.length = ready.vsize.toNat + 4 := by decide

theorem witness_CallReturnIsReadFromThePort :
    inFlight.busy = true ∧ faulted.fault = true ∧ ready.busy = false ∧ ready.fault = false
      ∧ [ResultCode.ok, .noResponse, .invalidState, .malformedResponse, .dataCorrupted, .mismatchAddress, .mismatchFunction].map
          (fun r => readPort { ready with result := r } 0x001#12) = [0x01#8, 0x02#8, 0x04#8, 0x05#8, 0x06#8, 0x07#8, 0x08#8] := by decide

theorem witness_EndedRunStaysEnded :
    { ready with turns := [.host], host := [.read 0x001#12] }.ended
      ∧ (∀ a, { ready with turns := [.host], host := [.read 0x001#12] }.turns.head? ≠ some (.answer a))
      ∧ ¬ { ready with turns := [.host], host := [.read 0x001#12] }.resetsNext
      ∧ step { ready with turns := [.host], host := [.read 0x001#12] } = .next ready := ⟨by decide, by simp, by decide, rfl⟩

end Sys2Proof.Tests
end

section
/-! SUPPORT. Proofs about the state (spec/10_state.md): a faulted block, the transport flag,
the response views, the reset values. -/

namespace Sys2Proof.Machine

/-! ### A faulted block -/

theorem State.raiseFirst_of_fault {s : State} (c : FaultCode) (hf : s.fault = true) : s.raiseFirst c = s :=
  if_pos hf

/-- An answer reaching a faulted block clears PENDING and nothing else (R165 to R167). -/
theorem takeAnswer_of_fault (a : Answer) {s : State} (hf : s.fault = true) :
    takeAnswer a s = { s with pending := none } := by
  rcases hp : s.pending with _ | n
  · have hs : s = { s with pending := none } := by rw [← hp]
    cases a <;> simpa [takeAnswer, takeNoResponse, takeDelivery, hp, State.raiseFirst_of_fault _ hf] using hs
  · cases a <;> simp [takeAnswer, takeNoResponse, takeDelivery, hp, hf]

/-- No read depends on the environment's PENDING or on the lists of what host and transport do next. -/
theorem readPort_environment (s : State) (p : Option Nat) (hs : List HostAction) (ts : List Turn) (a : ReadAddr) :
    readPort { s with pending := p, host := hs, turns := ts } a = readPort s a := rfl

/-- All that a step other than reset can change in a faulted block. -/
theorem step_of_fault {s t : State} (hf : s.fault = true) (hr : ¬ s.resetsNext) (h : step s = .next t) :
    ∃ p hs ts, (p = s.pending ∨ p = none) ∧ t = { s with pending := p, host := hs, turns := ts } := by
  rcases step_cases h with ⟨-, rfl⟩ | ⟨ts, rest, w, i, -, -, -, he⟩ | ⟨ts, rest, w, e, -, -, -, rfl⟩
    | ⟨ts, -, -, rfl | rfl⟩ | ⟨ts, a, -, rfl⟩ | ⟨ts, ht, -⟩
  · exact ⟨_, _, _, .inl rfl, rfl⟩
  · have hx := exec_faulted i (s := { s with turns := ts, host := rest }) hf
    exact ⟨_, _, _, .inl rfl, Host.Outcome.next.inj (he.symm.trans hx)⟩
  · exact ⟨_, _, _, .inl rfl, State.raiseFirst_of_fault _ hf⟩
  · exact ⟨_, _, _, .inl rfl, rfl⟩
  · exact ⟨_, _, _, .inl rfl, rfl⟩
  · exact ⟨_, _, _, .inr rfl, takeAnswer_of_fault a hf⟩
  · exact absurd (congrArg List.head? ht) hr

/-- Settles O8, by what a step can change in a faulted block. -/
theorem faultedBlockIsQuiescent : Obligations.FaultedBlockIsQuiescent := by
  intro s t hf hr h
  obtain ⟨p, hs, ts, hp, rfl⟩ := step_of_fault hf hr h
  exact ⟨rfl, hp, readPort_environment s p hs ts⟩

/-! ### The transport flag -/

/-- Of the commands only SES_RELEASE writes XPORT (R162). -/
theorem Effect.xport {i : Instr} {s t : State} (h : Effect i s t) :
    t.xport = s.xport ∨ (i = .sesRelease ∧ t.xport = false) := by
  cases i <;> simp only [Effect] at h
  case sesRelease => exact .inr ⟨rfl, by rw [h]⟩
  case crcInit | crcByte | reqClear | reqPayloadBegin | rspClear => exact .inl (by rw [h])
  case reqPayloadByte => rcases h with ⟨-, rfl⟩ | ⟨-, -, rfl⟩ | ⟨-, -, rfl⟩ <;> exact .inl rfl
  all_goals rcases h with ⟨-, rfl⟩ | ⟨-, rfl⟩ <;> exact .inl rfl

theorem exec_xport {i : Instr} {s t : State} (h : exec i s = .next t) :
    t.xport = s.xport ∨ (i = .sesRelease ∧ t.xport = false) := by
  rcases exec_cases h with ⟨-, rfl⟩ | ⟨-, -, -, rfl⟩ | ⟨-, -, he⟩
  · exact .inl rfl
  · exact .inl rfl
  · exact he.xport

@[simp] theorem State.raiseFirst_xport (s : State) (c : FaultCode) : (s.raiseFirst c).xport = s.xport := by
  rcases s.raiseFirst_cases c with ⟨-, h⟩ | ⟨-, h⟩ <;> simp [h]

/-- No answer of the transport writes XPORT (R163 to R167). -/
@[simp] theorem takeAnswer_xport (a : Answer) (s : State) : (takeAnswer a s).xport = s.xport := by
  cases a with
  | noResponse =>
    change (takeNoResponse s).xport = s.xport
    rcases takeNoResponse_cases s with ⟨-, h⟩ | ⟨-, -, h⟩ | ⟨-, -, h⟩ <;> simp [h]
  | deliver bytes =>
    change (takeDelivery bytes s).xport = s.xport
    rcases takeDelivery_cases bytes s with
      ⟨-, h⟩ | ⟨-, -, h⟩ | ⟨n, -, -, -, h⟩ | ⟨n, -, -, -, -, h⟩ | ⟨n, -, -, -, -, h⟩ <;> simp [h]

/-- Every way a step can leave XPORT: as it was, cleared by SES_RELEASE, set by reset. -/
theorem step_xport {s t : State} (h : step s = .next t) :
    t.xport = s.xport ∨ (s.runsNext .sesRelease ∧ t.xport = false) ∨ (s.resetsNext ∧ t.xport = true) := by
  rcases step_cases h with ⟨-, rfl⟩ | ⟨ts, rest, w, i, ht, hh, hd, he⟩ | ⟨ts, rest, w, e, -, -, -, rfl⟩
    | ⟨ts, -, -, rfl | rfl⟩ | ⟨ts, a, -, rfl⟩ | ⟨ts, ht, rfl⟩
  · exact .inl rfl
  · rcases exec_xport he with hx | ⟨rfl, hx⟩
    · exact .inl hx
    · exact .inr (.inl ⟨⟨congrArg List.head? ht, w, congrArg List.head? hh, hd⟩, hx⟩)
  · exact .inl (State.raiseFirst_xport _ _)
  · exact .inl rfl
  · exact .inl rfl
  · exact .inl (takeAnswer_xport a _)
  · exact .inr (.inr ⟨congrArg List.head? ht, rfl⟩)

/-- Settles O36: XPORT is a Boolean, so a step that changes it and writes 0 found 1, and the other way round. -/
theorem transportComesBackOnlyByReset : Obligations.TransportComesBackOnlyByReset := by
  intro s t h hne
  rcases step_xport h with hx | ⟨hrun, hx⟩ | ⟨hreset, hx⟩
  · exact absurd hx hne
  · exact .inl ⟨by simpa [hx] using hne.symm, hx, hrun⟩
  · exact .inr ⟨by simpa [hx] using hne.symm, hx, hreset⟩

/-! ### The response views -/

/-- The address of byte `i` of window `r` (20_memory.md R52). -/
theorem windowAddr_toNat (r : BitVec 4) (i : Byte) : (r ++ i : ReadAddr).toNat = r.toNat * 256 + i.toNat := by
  have h := BitVec.toNat_append r i
  rw [← Nat.shiftLeft_add_eq_or_of_lt i.isLt, Nat.shiftLeft_eq] at h
  exact h

/-- The window of VAL (20_memory.md R52). -/
theorem readPort_valWindow (s : State) (i : Byte) : readPort s (0x4#4 ++ i) = s.val i.toNat := by
  have ha : (0x4#4 ++ i : ReadAddr).toNat = 0x400 + i.toNat := windowAddr_toNat 0x4#4 i
  have hi := i.isLt
  simp only [readPort, ha]
  rw [if_neg (by omega), if_neg (by omega), if_neg (by omega), if_neg (by omega), if_pos (by omega),
    Nat.add_sub_cancel_left]

theorem State.view_of_none {s : State} (h : s.rspState = .none) (b : Byte) : s.view b = 0x00#8 := by
  simp [State.view, h]

theorem State.view_of_ne_none {s : State} (h : s.rspState ≠ .none) (b : Byte) : s.view b = b := by
  cases hs : s.rspState <;> simp_all [State.view]

theorem State.val_of_none {s : State} (h : s.rspState = .none) (i : Nat) : s.val i = 0x00#8 := by
  simp [State.val, State.view_of_none h]

theorem State.val_of_le {s : State} {i : Nat} (h : s.vsize.toNat ≤ i) : s.val i = 0x00#8 :=
  if_neg (by omega)

theorem some_byteAt {buf : List Byte} {i : Nat} (h : i < buf.length) : some (byteAt buf i) = buf[i]? := by
  rw [byteAt_of_lt h, List.getElem?_eq_getElem h]

/-- A response view of a held response is a byte of RX. -/
theorem State.some_view {s : State} (h : s.rspState ≠ .none) {i : Nat} (hi : i < s.rx.length) :
    some (s.view (byteAt s.rx i)) = s.rx[i]? := by
  rw [State.view_of_ne_none h, some_byteAt hi]

theorem State.some_val {s : State} (h : s.rspState ≠ .none) {i : Nat} (hi : i < s.vsize.toNat)
    (hrx : 2 + i < s.rx.length) : some (s.val i) = s.rx[2 + i]? := by
  rw [State.val, if_pos hi, State.some_view h hrx]

theorem readPort_rspAddr (s : State) : readPort s 0x011#12 = s.view (byteAt s.rx 0) := rfl

theorem readPort_rspFunc (s : State) : readPort s 0x012#12 = s.view (byteAt s.rx 1) := rfl

theorem readPort_rspCrcLo (s : State) : readPort s 0x013#12 = s.view (byteAt s.rx (s.vsize.toNat + 2)) := rfl

theorem readPort_rspCrcHi (s : State) : readPort s 0x014#12 = s.view (byteAt s.rx (s.vsize.toNat + 3)) := rfl

/-- Settles O51: the views are gated by RSP_STATE and, while a response is held, read their bytes of RX. -/
theorem responseViewsAreGated : Obligations.ResponseViewsAreGated := by
  intro s
  simp only [readPort_rspAddr, readPort_rspFunc, readPort_rspCrcLo, readPort_rspCrcHi, readPort_valWindow]
  constructor
  · intro h
    simp [State.view_of_none h, State.val_of_none h]
  · intro h hlen
    exact ⟨State.some_view h (by omega), State.some_view h (by omega), State.some_view h (by omega),
      State.some_view h (by omega), fun i => ⟨fun hi => State.some_val h hi (by omega), State.val_of_le⟩⟩

/-! ### The reset values -/

/-- Settles O43, by evaluating the state at power-on. -/
theorem powerOnValues : Obligations.PowerOnValues := by
  unfold Obligations.PowerOnValues
  decide

end Sys2Proof.Machine
end

section
/-! SUPPORT. Proofs about the read port (spec/20_memory.md): the windows of the three buffers, a read that has no
effect, the reserved addresses and bits. -/

namespace Sys2Proof.Machine

/-! ### The windows of the buffers -/

/-- The window of PAYLOAD (20_memory.md R52). -/
theorem readPort_payloadWindow (s : State) (i : Byte) : readPort s (0x1#4 ++ i) = byteAt s.payload i.toNat := by
  have ha : (0x1#4 ++ i : ReadAddr).toNat = 0x100 + i.toNat := windowAddr_toNat 0x1#4 i
  have hi := i.isLt
  simp only [readPort, ha]
  rw [if_neg (by omega), if_pos (by omega), Nat.add_sub_cancel_left]

/-- The window of TX (20_memory.md R52). -/
theorem readPort_txWindow (s : State) (i : Byte) : readPort s (0x2#4 ++ i) = byteAt s.tx i.toNat := by
  have ha : (0x2#4 ++ i : ReadAddr).toNat = 0x200 + i.toNat := windowAddr_toNat 0x2#4 i
  have hi := i.isLt
  simp only [readPort, ha]
  rw [if_neg (by omega), if_neg (by omega), if_pos (by omega), Nat.add_sub_cancel_left]

/-- The window of RX (20_memory.md R52). -/
theorem readPort_rxWindow (s : State) (i : Byte) : readPort s (0x3#4 ++ i) = byteAt s.rx i.toNat := by
  have ha : (0x3#4 ++ i : ReadAddr).toNat = 0x300 + i.toNat := windowAddr_toNat 0x3#4 i
  have hi := i.isLt
  simp only [readPort, ha]
  rw [if_neg (by omega), if_neg (by omega), if_neg (by omega), if_pos (by omega), Nat.add_sub_cancel_left]

/-- Settles O52: each window reads its buffer at the index, and a buffer reads 0x00 from its length on. -/
theorem bufferWindowsReadTheirBytes : Obligations.BufferWindowsReadTheirBytes := by
  intro s i
  rw [readPort_payloadWindow, readPort_txWindow, readPort_rxWindow]
  exact ⟨byteAt_of_lt, byteAt_of_le, byteAt_of_lt, byteAt_of_le, byteAt_of_lt, byteAt_of_le⟩

/-! ### A read has no effect -/

theorem step_host {s : State} {ts : List Turn} (ht : s.turns = .host :: ts) :
    step s = hostTurn { s with turns := ts } := by
  simp only [step, ht, takeTurn]

theorem hostTurn_read {s : State} {a : ReadAddr} {rest : List HostAction} (hh : s.host = .read a :: rest) :
    hostTurn s = .next { s with host := rest } := by
  simp only [hostTurn, hh]

/-- A read step takes the turn and the action off their lists and does nothing else (R53). -/
theorem step_read {s : State} {a : ReadAddr} {ts : List Turn} {rest : List HostAction} (ht : s.turns = .host :: ts)
    (hh : s.host = .read a :: rest) : step s = .next { s with turns := ts, host := rest } :=
  (step_host ht).trans (hostTurn_read (s := { s with turns := ts }) hh)

/-! ### Reserved addresses and bits (R55) -/

/-- The register region's last named address is 0x014 (R52). -/
theorem State.readRegister_of_le (s : State) {n : Nat} (h : 0x015 ≤ n) : s.readRegister n = 0x00#8 := by
  obtain ⟨k, rfl⟩ := Nat.exists_eq_add_of_le' h
  rfl

theorem readPort_reservedRegister (s : State) {a : ReadAddr} (hlo : 0x015 ≤ a.toNat) (hhi : a.toNat ≤ 0x0FF) :
    readPort s a = 0x00#8 := by
  rw [readPort, if_pos (by omega), s.readRegister_of_le hlo]

theorem readPort_beyondWindows (s : State) {a : ReadAddr} (h : 0x500 ≤ a.toNat) : readPort s a = 0x00#8 := by
  rw [readPort, if_neg (by omega), if_neg (by omega), if_neg (by omega), if_neg (by omega), if_neg (by omega)]

/-- Bits 7:6 of STATUS are 0 (R29): the mask is split along STATUS's fields. -/
theorem State.status_reserved (s : State) : s.status &&& 0xC0#8 = 0x00#8 := by
  have hmask : 0xC0#8 = 0b11#2 ++ 0#2 ++ 0#1 ++ 0#1 ++ 0#1 ++ 0#1 := rfl
  rw [State.status, hmask]
  change (_ &&& _ : BitVec (2 + 2 + 1 + 1 + 1 + 1)) = _
  simp only [BitVec.and_append, BitVec.zero_and, BitVec.and_zero]
  rfl

/-- Bits 7:3 of FLAGS are 0 (R23): the mask is split along FLAGS's fields. -/
theorem State.flags_reserved (s : State) : s.flags &&& 0xF8#8 = 0x00#8 := by
  have hmask : 0xF8#8 = 0b11111#5 ++ 0#1 ++ 0#1 ++ 0#1 := rfl
  rw [State.flags, hmask]
  change (_ &&& _ : BitVec (5 + 1 + 1 + 1)) = _
  simp only [BitVec.and_append, BitVec.zero_and, BitVec.and_zero]
  rfl

/-- Settles O53: a read step changes the two lists alone, and no read depends on them. -/
theorem readsHaveNoEffect : Obligations.ReadsHaveNoEffect := by
  intro s
  refine ⟨fun a ts rest ht hh => ⟨step_read ht hh, fun t h b => ?_⟩, fun a ha => ?_, s.status_reserved, s.flags_reserved⟩
  · obtain rfl := Host.Outcome.next.inj ((step_read ht hh).symm.trans h)
    exact readPort_environment s s.pending rest ts b
  · rcases ha with ⟨hlo, hhi⟩ | hge
    · exact readPort_reservedRegister s hlo hhi
    · exact readPort_beyondWindows s hge

end Sys2Proof.Machine
end

section
/-! SUPPORT. Proofs about the encoding (spec/30_encoding.md): the decoder told by the mnemonics of the opcode map, the
match and mask pairs, the words that are illegal. -/

namespace Sys2Proof

/-! ### The decoder, told by the mnemonics -/

/-- The command a mnemonic stands for, the operand byte ignored where it takes none (R72). -/
def Mnemonic.command : Mnemonic → Byte → Instr
  | .CRC_INIT, _ => .crcInit
  | .CRC_BYTE, b => .crcByte b
  | .REQ_CLEAR, _ => .reqClear
  | .REQ_ADDR, b => .reqAddr b
  | .REQ_FUNC, b => .reqFunc b
  | .REQ_PAYLOAD_BEGIN, _ => .reqPayloadBegin
  | .REQ_PAYLOAD_BYTE, b => .reqPayloadByte b
  | .REQ_BUILD, _ => .reqBuild
  | .RSP_SETSIZE, b => .rspSetsize b
  | .RSP_CLEAR, _ => .rspClear
  | .RSP_BYTE, b => .rspByte b
  | .RSP_PARSE, _ => .rspParse
  | .RSP_VALIDATE, _ => .rspValidate
  | .SES_TRANSACT, _ => .sesTransact
  | .SES_RELEASE, _ => .sesRelease

@[simp] theorem Mnemonic.command_mnemonic (m : Mnemonic) (b : Byte) : (m.command b).line.mnemonic = m := by
  cases m <;> rfl

/-- An operand byte a mnemonic can stand with: any where it takes an operand, else 0x00 (R73(b)). -/
abbrev Mnemonic.accepts (m : Mnemonic) (imm : Byte) : Prop := m.takesOperand = true ∨ imm = 0x00#8

theorem Mnemonic.exists_iff {p : Mnemonic → Prop} :
    (∃ m, p m) ↔ p .CRC_INIT ∨ p .CRC_BYTE ∨ p .REQ_CLEAR ∨ p .REQ_ADDR ∨ p .REQ_FUNC ∨ p .REQ_PAYLOAD_BEGIN
      ∨ p .REQ_PAYLOAD_BYTE ∨ p .REQ_BUILD ∨ p .RSP_SETSIZE ∨ p .RSP_CLEAR ∨ p .RSP_BYTE ∨ p .RSP_PARSE
      ∨ p .RSP_VALIDATE ∨ p .SES_TRANSACT ∨ p .SES_RELEASE := by
  constructor
  · rintro ⟨m, h⟩
    cases m <;> simp only [h, true_or, or_true]
  · rintro (h | h | h | h | h | h | h | h | h | h | h | h | h | h | h) <;> exact ⟨_, h⟩

/-- The opcode map, one equation for the fifteen rows of R72. -/
theorem decodeFields_opcode (m : Mnemonic) (imm : Byte) :
    decodeFields m.opcode imm =
      if m.takesOperand then .ok (m.command imm) else noOperand m.opcode imm (m.command imm) := by
  cases m <;> rfl

theorem decodeFields_of_accepts {m : Mnemonic} {imm : Byte} (h : m.accepts imm) :
    decodeFields m.opcode imm = .ok (m.command imm) := by
  rw [decodeFields_opcode]
  rcases h with h | h
  · exact if_pos h
  · simp [noOperand, h]

theorem decodeFields_of_not_accepts {m : Mnemonic} {imm : Byte} (h : ¬ m.accepts imm) :
    decodeFields m.opcode imm = .error (.operandNotZero m.opcode imm) := by
  obtain ⟨hm, himm⟩ := not_or.mp h
  rw [decodeFields_opcode, if_neg hm, noOperand, if_neg himm]

/-- The map's default row: an opcode that is no mnemonic's (R73(a)). -/
theorem decodeFields_of_no_mnemonic {op : Byte} (h : ¬ ∃ m : Mnemonic, m.opcode = op) (imm : Byte) :
    decodeFields op imm = .error (.reservedOpcode op) := by
  simp only [Mnemonic.exists_iff, Mnemonic.opcode, ← BitVec.toNat_inj, not_or] at h
  unfold decodeFields
  split
  case h_16 => rfl
  all_goals next hrow => simp [hrow] at h

/-- All that can become of two fields: a command, an operand where none may stand, a reserved opcode. -/
theorem decodeFields_cases (op imm : Byte) :
    (∃ m : Mnemonic, m.opcode = op ∧ m.accepts imm ∧ decodeFields op imm = .ok (m.command imm))
      ∨ (∃ m : Mnemonic, m.opcode = op ∧ ¬ m.accepts imm ∧ decodeFields op imm = .error (.operandNotZero op imm))
      ∨ ((¬ ∃ m : Mnemonic, m.opcode = op) ∧ decodeFields op imm = .error (.reservedOpcode op)) := by
  by_cases hop : ∃ m : Mnemonic, m.opcode = op
  · obtain ⟨m, rfl⟩ := hop
    by_cases h : m.accepts imm
    · exact .inl ⟨m, rfl, h, decodeFields_of_accepts h⟩
    · exact .inr (.inl ⟨m, rfl, h, decodeFields_of_not_accepts h⟩)
  · exact .inr (.inr ⟨hop, decodeFields_of_no_mnemonic hop imm⟩)

theorem decode_ok_iff {w : Word} {i : Instr} :
    decode w = .ok i ↔
      ∃ m : Mnemonic, m.opcode = opField w ∧ m.accepts (immField w) ∧ m.command (immField w) = i := by
  constructor
  · intro h
    rcases decodeFields_cases (opField w) (immField w) with ⟨m, hop, ha, hd⟩ | ⟨m, -, -, hd⟩ | ⟨-, hd⟩
    · exact ⟨m, hop, ha, Except.ok.inj (hd.symm.trans h)⟩
    · exact nomatch hd.symm.trans h
    · exact nomatch hd.symm.trans h
  · rintro ⟨m, hop, ha, rfl⟩
    rw [decode, ← hop, decodeFields_of_accepts ha]

theorem decode_error_iff {w : Word} :
    (∃ e, decode w = .error e) ↔
      (¬ ∃ m : Mnemonic, m.opcode = opField w) ∨ ∃ m : Mnemonic, m.opcode = opField w ∧ ¬ m.accepts (immField w) := by
  constructor
  · rintro ⟨e, h⟩
    rcases decodeFields_cases (opField w) (immField w) with ⟨m, -, -, hd⟩ | ⟨m, hop, ha, -⟩ | ⟨hop, -⟩
    · exact nomatch hd.symm.trans h
    · exact .inr ⟨m, hop, ha⟩
    · exact .inl hop
  · rintro (hop | ⟨m, hop, ha⟩)
    · exact ⟨_, decodeFields_of_no_mnemonic hop _⟩
    · exact ⟨_, by rw [decode, ← hop, decodeFields_of_not_accepts ha]⟩

/-! ### The rows of the opcode map -/

/-- A row that takes an operand decodes with every operand byte. -/
theorem decode_operand_row {m : Mnemonic} (h : m.takesOperand = true) (b : Byte) :
    decode (m.opcode ++ b) = .ok (m.command b) :=
  decode_ok_iff.mpr ⟨m, (opField_append _ _).symm, .inl h, by rw [immField_append]⟩

/-- Every row decodes with the operand byte 0x00. -/
theorem decode_zero_row (m : Mnemonic) : decode (m.opcode ++ 0x00#8) = .ok (m.command 0x00#8) :=
  decode_ok_iff.mpr ⟨m, (opField_append _ _).symm, .inr (immField_append _ _), by rw [immField_append]⟩

/-- The words of a row are the words that decode to a command of its mnemonic. -/
theorem exists_decode_mnemonic_iff {m : Mnemonic} {w : Word} :
    (∃ i, decode w = .ok i ∧ i.line.mnemonic = m) ↔ opField w = m.opcode ∧ m.accepts (immField w) := by
  constructor
  · rintro ⟨i, hd, rfl⟩
    obtain ⟨m, hop, ha, rfl⟩ := decode_ok_iff.mp hd
    rw [Mnemonic.command_mnemonic]
    exact ⟨hop.symm, ha⟩
  · rintro ⟨hop, ha⟩
    exact ⟨m.command (immField w), decode_ok_iff.mpr ⟨m, hop.symm, ha, rfl⟩, m.command_mnemonic _⟩

/-! ### Match and mask (R72) -/

/-- The mask of a row, by its two fields. -/
theorem Mnemonic.mask_eq (m : Mnemonic) :
    m.mask = (0xFF#8 ++ (if m.takesOperand then 0x00#8 else 0xFF#8) : Word) := by
  cases m <;> rfl

theorem and_append_fields (w : Word) (a b : Byte) :
    w &&& (a ++ b : Word) = (opField w &&& a) ++ (immField w &&& b) := by
  conv_lhs => rw [← append_fields w]
  exact BitVec.and_append

theorem append_fields_eq_iff {o₁ o₂ b₁ b₂ : Byte} : (o₁ ++ b₁ : Word) = o₂ ++ b₂ ↔ o₁ = o₂ ∧ b₁ = b₂ :=
  ⟨fields_inj, fun ⟨ho, hb⟩ => ho ▸ hb ▸ rfl⟩

/-- A word meets a row's match under its mask when it has the row's opcode and an operand byte the row accepts. -/
theorem and_mask_eq_iff (m : Mnemonic) (w : Word) :
    w &&& m.mask = (m.opcode ++ 0x00#8 : Word) ↔ opField w = m.opcode ∧ m.accepts (immField w) := by
  have hff (b : Byte) : b &&& 0xFF#8 = b := BitVec.and_allOnes
  rw [m.mask_eq, and_append_fields, append_fields_eq_iff, hff]
  cases hm : m.takesOperand <;> simp [Mnemonic.accepts, hm, hff]

/-- `op << 8` as R72 writes a row's match. -/
theorem zeroExtend_shiftLeft_eight (op : Byte) : BitVec.zeroExtend 16 op <<< 8 = (op ++ 0x00#8 : Word) :=
  BitVec.or_zero.symm.trans (Laws.AssembledAsEncoded.op_shift op)

/-! ### The fields as numbers -/

theorem opField_toNat (w : Word) : (opField w).toNat = w.toNat / 256 := by
  have hw := w.isLt
  rw [opField, BitVec.extractLsb'_toNat, Nat.shiftRight_eq_div_pow]
  omega

theorem immField_toNat (w : Word) : (immField w).toNat = w.toNat % 256 := by
  rw [immField, BitVec.extractLsb'_toNat, Nat.shiftRight_zero]

theorem toNat_div_4096 (w : Word) : w.toNat / 4096 = (opField w).toNat / 16 := by
  rw [opField_toNat, Nat.div_div_eq_div_mul]

/-- Settles O1: the rows are the decoder's equations, match and mask compare the two fields, and the high digit of a
mnemonic's opcode tells its family. -/
theorem opcodeMapRowsAreTheDecoder : Obligations.OpcodeMapRowsAreTheDecoder := by
  refine ⟨fun b => ⟨decode_zero_row .CRC_INIT, decode_operand_row (m := .CRC_BYTE) rfl b, decode_zero_row .REQ_CLEAR,
    decode_operand_row (m := .REQ_ADDR) rfl b, decode_operand_row (m := .REQ_FUNC) rfl b,
    decode_zero_row .REQ_PAYLOAD_BEGIN, decode_operand_row (m := .REQ_PAYLOAD_BYTE) rfl b, decode_zero_row .REQ_BUILD,
    decode_operand_row (m := .RSP_SETSIZE) rfl b, decode_zero_row .RSP_CLEAR,
    decode_operand_row (m := .RSP_BYTE) rfl b, decode_zero_row .RSP_PARSE, decode_zero_row .RSP_VALIDATE,
    decode_zero_row .SES_TRANSACT, decode_zero_row .SES_RELEASE⟩, fun m w => ?_, fun w i h => ?_⟩
  · rw [zeroExtend_shiftLeft_eight, exists_decode_mnemonic_iff]
    exact and_mask_eq_iff m w
  · obtain ⟨m, hop, -, rfl⟩ := decode_ok_iff.mp h
    rw [toNat_div_4096, ← hop]
    cases m <;> rfl

/-! ### Illegal words (R73) -/

/-- The ranges R73(a) gives for an opcode. -/
abbrev reservedRange (op : Nat) : Prop :=
  op ≤ 0x0F ∨ (0x12 ≤ op ∧ op ≤ 0x1F) ∨ (0x26 ≤ op ∧ op ≤ 0x2F) ∨ (0x35 ≤ op ∧ op ≤ 0x3F) ∨ 0x42 ≤ op

/-- The opcodes of R72 that stand with no operand, to which R73(b) applies. -/
abbrev operandlessOpcode (op : Nat) : Prop :=
  op = 0x10 ∨ op = 0x20 ∨ op = 0x23 ∨ op = 0x25 ∨ op = 0x31 ∨ op = 0x33 ∨ op = 0x34 ∨ op = 0x40 ∨ op = 0x41

theorem reservedRange_iff (op : Byte) : reservedRange op.toNat ↔ ¬ ∃ m : Mnemonic, m.opcode = op := by
  simp only [reservedRange, Mnemonic.exists_iff, Mnemonic.opcode, ← BitVec.toNat_inj, BitVec.toNat_ofNat]
  omega

theorem operandlessOpcode_iff (op : Byte) :
    operandlessOpcode op.toNat ↔ ∃ m : Mnemonic, m.opcode = op ∧ m.takesOperand = false := by
  simp only [operandlessOpcode, Mnemonic.exists_iff, Mnemonic.opcode, Mnemonic.takesOperand, ← BitVec.toNat_inj,
    BitVec.toNat_ofNat, reduceCtorEq, and_true, and_false, false_or]
  omega

/-- R73 on a word: the ranges of (a) or the operand rule of (b) hold exactly when the decoder refuses it. -/
theorem illegal_iff (w : Word) :
    (reservedRange (w.toNat / 256) ∨ (operandlessOpcode (w.toNat / 256) ∧ w.toNat % 256 ≠ 0))
      ↔ ∃ e, decode w = .error e := by
  have himm : w.toNat % 256 ≠ 0 ↔ immField w ≠ 0x00#8 := by
    rw [← immField_toNat, Ne, Ne, ← BitVec.toNat_inj]
    rfl
  rw [decode_error_iff, himm, ← opField_toNat, reservedRange_iff, operandlessOpcode_iff]
  simp only [Mnemonic.accepts, not_or, Bool.not_eq_true, ← and_assoc, exists_and_right]

end Sys2Proof

namespace Sys2Proof.Machine

theorem State.raiseFirst_of_not_fault {s : State} (c : FaultCode) (hf : s.fault = false) :
    s.raiseFirst c = s.raiseFault c :=
  if_neg (by simp [hf])

theorem writeCommand_of_error {w : Word} {e : Illegal} (h : decode w = .error e) (s : State) :
    writeCommand w s = .next (s.raiseFirst .illegalCommand) := by
  simp only [writeCommand, h]

/-- Settles O4: the illegal words are those the decoder refuses, and a refused word raises ILLEGAL_COMMAND. -/
theorem illegalWordsFault : Obligations.IllegalWordsFault := by
  intro w
  refine ⟨?_, illegal_iff w, fun hill s hf => ?_⟩
  · rcases hd : decode w with e | i
    · exact .inl ((illegal_iff w).mpr ⟨e, hd⟩)
    · exact .inr ⟨i, rfl⟩
  · obtain ⟨e, he⟩ := (illegal_iff w).mp hill
    rw [writeCommand_of_error he, State.raiseFirst_of_not_fault _ hf]
    rfl

end Sys2Proof.Machine
end

section
/-! SUPPORT. Proofs about the CRC family (spec/40_crc.md): its two commands in a state without a fault. -/

namespace Sys2Proof.Machine

/-! ### The two commands (R102, R103) -/

theorem exec_crcInit {s : State} (hf : s.fault = false) :
    exec .crcInit s = .next { s with crc := Config.crcInit } := by
  obtain ⟨t, h, he⟩ := exec_enabled (i := .crcInit) hf (.inr rfl)
  exact h.trans (congrArg _ he)

theorem exec_crcByte (b : Byte) {s : State} (hf : s.fault = false) :
    exec (.crcByte b) s = .next { s with crc := crcStep s.crc b } := by
  obtain ⟨t, h, he⟩ := exec_enabled (i := .crcByte b) hf (.inr rfl)
  exact h.trans (congrArg _ he)

/-- R73(b): a mnemonic that takes no operand, written with an operand byte other than 0x00, raises ILLEGAL_COMMAND. -/
theorem writeCommand_of_not_accepts {m : Mnemonic} {b : Byte} (h : ¬ m.accepts b) {s : State} (hf : s.fault = false) :
    writeCommand (m.opcode ++ b) s = .next (s.raiseFault .illegalCommand) := by
  have hd : decode (m.opcode ++ b) = .error (.operandNotZero m.opcode b) := by
    rw [decode, opField_append, immField_append, decodeFields_of_not_accepts h]
  rw [writeCommand_of_error hd, State.raiseFirst_of_not_fault _ hf]

/-- Settles O11, by the rule of each command and, for 0x10ii, the operand rule of R73(b). -/
theorem crcCommandsUpdateTheAccumulator : Obligations.CrcCommandsUpdateTheAccumulator := by
  refine ⟨rfl, fun b => rfl, fun s b => ⟨exec_crcInit, exec_crcByte b, fun hf => ?_, fun hf hb => ?_⟩⟩
  · exact ⟨exec_faulted _ hf, exec_faulted _ hf⟩
  · have hm : ¬ Mnemonic.CRC_INIT.accepts b := not_or.mpr ⟨Bool.false_ne_true, hb⟩
    exact writeCommand_of_not_accepts hm hf

end Sys2Proof.Machine
end

section
/-! SUPPORT. Proofs about the request family (spec/41_request.md): the shape of a built frame, and what each command
does in a state without a fault. -/

namespace Sys2Proof.Machine

/-! ### The frame (R121) -/

/-- A frame is its body and the two checksum bytes over that body, low byte first. -/
theorem buildFrame_eq_append (a f : Byte) (p : List Byte) :
    buildFrame a f p = (a :: f :: p) ++ [loByte (crc16 (a :: f :: p)), hiByte (crc16 (a :: f :: p))] := rfl

/-- Settles O25: the body ends after `2 + p.length` bytes, and the two checksum bytes follow it. -/
theorem builtFrameHasItsShape : Obligations.BuiltFrameHasItsShape := by
  intro a f p
  have hbody : (a :: f :: p).length = 2 + p.length := Nat.add_comm p.length 2
  refine ⟨(buildFrame_length a f p).trans (Nat.add_comm _ _), ?_, ?_, ?_⟩ <;> rw [buildFrame_eq_append]
  · exact List.take_left' hbody
  · rw [← hbody, List.getElem?_append_right le_rfl, Nat.sub_self]
    rfl
  · have hlast : 3 + p.length = (a :: f :: p).length + 1 := by omega
    rw [hlast, List.getElem?_append_right (Nat.le_add_right _ 1), Nat.add_sub_cancel_left]
    rfl

/-! ### An enabled command, told by its effect -/

/-- A command has one effect in a state: its alternatives exclude each other. -/
theorem Effect.unique {i : Instr} {s t u : State} (ht : Effect i s t) (hu : Effect i s u) : t = u := by
  cases i <;> simp only [Effect] at ht hu
  case crcInit | crcByte | reqClear | reqPayloadBegin | rspClear | sesRelease => exact ht.trans hu.symm
  all_goals grind

/-- The converse of `exec_cases` for an enabled command: any state its effect allows is the one it leads to. -/
theorem exec_of_effect {i : Instr} {s t : State} (hf : s.fault = false) (hb : s.busy = false ∨ family i = .crc)
    (he : Effect i s t) : exec i s = .next t := by
  obtain ⟨u, hu, he'⟩ := exec_enabled hf hb
  rw [hu, he'.unique he]

/-- A request command during an exchange (R120, R204). -/
theorem exec_request_busy {i : Instr} (hi : family i = .request) {s : State} (hf : s.fault = false)
    (hb : s.busy = true) : exec i s = .next { s with fault := true, faultCode := .concurrentUse } :=
  exec_busy (by simp [hi]) hf hb

/-- R73(b): an operand byte other than 0x00 beside a mnemonic that takes none. -/
theorem writeCommand_superfluousOperand {m : Mnemonic} (hm : m.takesOperand = false) {b : Byte} (hb : b ≠ 0x00#8)
    {s : State} (hf : s.fault = false) :
    writeCommand (m.opcode ++ b) s = .next { s with fault := true, faultCode := .illegalCommand } :=
  writeCommand_of_not_accepts (not_or.mpr ⟨by simp [hm], hb⟩) hf

/-! ### The setters (R122 to R124) -/

/-- Settles O19, by the command's effect and, for 0x20ii, the operand rule of R73(b). -/
theorem reqClearEmptiesTheBuilder : Obligations.ReqClearEmptiesTheBuilder :=
  ⟨rfl, fun _ hf => ⟨fun hb => exec_of_effect hf (.inl hb) rfl, exec_request_busy rfl hf,
    fun _ hb => writeCommand_superfluousOperand (m := .REQ_CLEAR) rfl hb hf⟩⟩

/-- The range of R123. -/
theorem addrValid_iff (a : Byte) : addrValid a = true ↔ a.toNat ≤ 247 := by
  rw [addrValid, Bool.and_eq_true, decide_eq_true_eq, decide_eq_true_eq]
  exact and_iff_right (Nat.zero_le _)

/-- The range of R124. -/
theorem funcValid_iff (f : Byte) : funcValid f = true ↔ 1 ≤ f.toNat ∧ f.toNat ≤ 127 := by
  rw [funcValid, Bool.and_eq_true, decide_eq_true_eq, decide_eq_true_eq]
  exact Iff.rfl

/-- Settles O20: the effect's two alternatives are the two sides of the limit 247. -/
theorem reqAddrSetsOrRejects : Obligations.ReqAddrSetsOrRejects := by
  refine fun s a => ⟨rfl, fun hf => ⟨fun hb ha => ?_, fun hb ha => ?_, exec_request_busy rfl hf⟩⟩
  · exact exec_of_effect hf (.inl hb) (.inl ⟨(addrValid_iff a).mpr ha, rfl⟩)
  · have hv : addrValid a = false := Bool.eq_false_iff.mpr fun h => ha.not_ge ((addrValid_iff a).mp h)
    exact exec_of_effect hf (.inl hb) (.inr ⟨hv, rfl⟩)

/-- Settles O21: the effect's two alternatives are the inside and the outside of the range 1 to 127. -/
theorem reqFuncSetsOrRejects : Obligations.ReqFuncSetsOrRejects := by
  refine fun s f => ⟨rfl, fun hf => ⟨fun hb hlo hhi => ?_, fun hb ho => ?_, exec_request_busy rfl hf⟩⟩
  · exact exec_of_effect hf (.inl hb) (.inl ⟨(funcValid_iff f).mpr ⟨hlo, hhi⟩, rfl⟩)
  · have hv : funcValid f = false := by
      rw [Bool.eq_false_iff, Ne, funcValid_iff]
      omega
    exact exec_of_effect hf (.inl hb) (.inr ⟨hv, rfl⟩)

/-! ### The payload (R125, R126) -/

/-- Settles O22, by the command's effect and, for 0x23ii, the operand rule of R73(b). -/
theorem reqPayloadBeginStartsEmpty : Obligations.ReqPayloadBeginStartsEmpty :=
  ⟨rfl, fun _ hf => ⟨fun hb => exec_of_effect hf (.inl hb) rfl, exec_request_busy rfl hf,
    fun _ hb => writeCommand_superfluousOperand (m := .REQ_PAYLOAD_BEGIN) rfl hb hf⟩⟩

/-- Settles O23: the effect's three alternatives are not begun, full and appended. -/
theorem reqPayloadByteAppendsOrRejects : Obligations.ReqPayloadByteAppendsOrRejects := by
  refine fun s b => ⟨rfl, fun hf => ⟨fun hb hp => ?_, fun hb hp hl => ?_, fun hb hp hl => ?_, exec_request_busy rfl hf⟩⟩
  · exact exec_of_effect hf (.inl hb) (.inl ⟨hp, rfl⟩)
  · exact exec_of_effect hf (.inl hb) (.inr (.inl ⟨hp, hl, rfl⟩))
  · exact exec_of_effect hf (.inl hb) (.inr (.inr ⟨hp, hl, rfl⟩))

/-! ### The build (R127, R128) -/

theorem State.missing_toNat_lt (s : State) : s.missing.toNat < 2 ^ 3 := by
  unfold State.missing
  cases s.addrSet <;> cases s.funcSet <;> cases s.paySet <;> decide

/-- The mask of missing fields, bit by bit (R127). -/
theorem State.missing_getLsbD (s : State) :
    s.missing.getLsbD 0 = !s.addrSet ∧ s.missing.getLsbD 1 = !s.funcSet ∧ s.missing.getLsbD 2 = !s.paySet
      ∧ ∀ k, 3 ≤ k → s.missing.getLsbD k = false := by
  have hlt {k : Nat} (hk : 3 ≤ k) : s.missing.toNat < 2 ^ k :=
    s.missing_toNat_lt.trans_le (Nat.pow_le_pow_right two_pos hk)
  refine ⟨?_, ?_, ?_, fun k hk => Nat.testBit_lt_two_pow (hlt hk)⟩
  all_goals
    unfold State.missing
    cases s.addrSet <;> cases s.funcSet <;> cases s.paySet <;> decide

/-- Nothing is missing exactly when all three fields were set. -/
theorem State.missing_eq_zero_iff (s : State) :
    s.missing = 0x00#8 ↔ s.addrSet = true ∧ s.funcSet = true ∧ s.paySet = true := by
  constructor
  · intro h
    obtain ⟨h0, h1, h2, -⟩ := s.missing_getLsbD
    simp_all
  · rintro ⟨ha, hu, hp⟩
    simp [State.missing, ha, hu, hp]

/-- Settles O24: the effect's two alternatives are an empty and a non-empty mask of missing fields. -/
theorem reqBuildStoresTheFrame : Obligations.ReqBuildStoresTheFrame := by
  refine ⟨rfl, fun s hf => ⟨fun hb ha hu hp => ?_, fun hb hset => ?_, exec_request_busy rfl hf,
    fun _ hb => writeCommand_superfluousOperand (m := .REQ_BUILD) rfl hb hf⟩⟩
  · exact exec_of_effect hf (.inl hb) (.inr ⟨s.missing_eq_zero_iff.mpr ⟨ha, hu, hp⟩, rfl⟩)
  · have hm : s.missing ≠ 0x00#8 := mt s.missing_eq_zero_iff.mp hset
    exact ⟨s.missing, exec_of_effect hf (.inl hb) (.inl ⟨hm, rfl⟩), s.missing_getLsbD⟩

end Sys2Proof.Machine
end

section
/-! SUPPORT. Proofs about the response family (spec/42_response.md): what each command does in a state without a fault,
and the order of a validation's checks. -/

namespace Sys2Proof.Machine

/-! ### Filling the window (R140 to R142) -/

/-- The range of R140. -/
theorem sizeValid_iff (n : Byte) : sizeValid n = true ↔ n.toNat ≤ 252 :=
  decide_eq_true_iff

/-- A response command during an exchange (R147, R204). -/
theorem exec_response_busy {i : Instr} (hi : family i = .response) {s : State} (hf : s.fault = false)
    (hb : s.busy = true) : exec i s = .next { s with fault := true, faultCode := .concurrentUse } :=
  exec_busy (by simp [hi]) hf hb

/-- Settles O27: the effect's two alternatives are the two sides of the limit 252. -/
theorem rspSetsizeSetsOrRejects : Obligations.RspSetsizeSetsOrRejects := by
  refine fun s n => ⟨rfl, fun hf => ⟨fun hb hn => ?_, fun hb hn => ?_, exec_response_busy rfl hf⟩⟩
  · exact exec_of_effect hf (.inl hb) (.inl ⟨(sizeValid_iff n).mpr hn, rfl⟩)
  · have hv : sizeValid n = false := Bool.eq_false_iff.mpr fun h => hn.not_ge ((sizeValid_iff n).mp h)
    exact exec_of_effect hf (.inl hb) (.inr ⟨hv, rfl⟩)

/-- Settles O28, by the command's effect and, for 0x31ii, the operand rule of R73(b). -/
theorem rspClearEmptiesTheWindow : Obligations.RspClearEmptiesTheWindow :=
  ⟨rfl, fun _ hf => ⟨fun hb => exec_of_effect hf (.inl hb) rfl, exec_response_busy rfl hf,
    fun _ hb => writeCommand_superfluousOperand (m := .RSP_CLEAR) rfl hb hf⟩⟩

/-- Settles O29: the effect's two alternatives are a full window and one with room. -/
theorem rspByteAppendsOrRejects : Obligations.RspByteAppendsOrRejects := by
  refine fun s b => ⟨rfl, fun hf => ⟨fun hb hl => ?_, fun hb hl => ?_, exec_response_busy rfl hf⟩⟩
  · exact exec_of_effect hf (.inl hb) (.inl ⟨hl, rfl⟩)
  · exact exec_of_effect hf (.inl hb) (.inr ⟨hl, rfl⟩)

/-! ### The parse (R143) -/

/-- Settles O30: the effect's two alternatives are fewer than EXPLEN bytes and at least as many. -/
theorem rspParseIsStructural : Obligations.RspParseIsStructural := by
  refine ⟨rfl, fun s hf => ⟨fun hb hl => ?_, fun hb hl => ?_, exec_response_busy rfl hf,
    fun _ hb => writeCommand_superfluousOperand (m := .RSP_PARSE) rfl hb hf⟩⟩
  · exact exec_of_effect hf (.inl hb) (.inl ⟨hl, rfl⟩)
  · exact exec_of_effect hf (.inl hb) (.inr ⟨hl, rfl⟩)

/-! ### The checks of a validation (R144) -/

/-- `sumMatches` with the checksum's halves written as bit ranges (R8, R101). -/
theorem State.sumMatches_iff (s : State) :
    s.sumMatches ↔
      s.rx.getD (s.explen - 2) 0x00#8 = (crc16 (s.rx.take (s.explen - 2))).extractLsb' 0 8
        ∧ s.rx.getD (s.explen - 1) 0x00#8 = (crc16 (s.rx.take (s.explen - 2))).extractLsb' 8 8 :=
  Iff.rfl

theorem State.check_of_not_sumMatches {s : State} (hsum : ¬ s.sumMatches) : s.check = (.dataCorrupted, 0x00#8) := by
  simpa [hsum] using s.check_cases

theorem State.check_of_address_ne {s : State} (hsum : s.sumMatches) (haddr : byteAt s.rx 0 ≠ byteAt s.tx 0) :
    s.check = (.mismatchAddress, byteAt s.tx 0) := by
  simpa [hsum, haddr] using s.check_cases

theorem State.check_of_function_ne {s : State} (hsum : s.sumMatches) (haddr : byteAt s.rx 0 = byteAt s.tx 0)
    (hfunc : byteAt s.rx 1 ≠ byteAt s.tx 1) : s.check = (.mismatchFunction, byteAt s.tx 1) := by
  simpa [hsum, haddr, hfunc] using s.check_cases

theorem State.check_of_echo {s : State} (hsum : s.sumMatches) (haddr : byteAt s.rx 0 = byteAt s.tx 0)
    (hfunc : byteAt s.rx 1 = byteAt s.tx 1) : s.check = (.ok, 0x00#8) := by
  simpa [hsum, haddr, hfunc] using s.check_cases

/-- The end of a validation, by the outcome of its checks. -/
theorem State.conclude_of_check {s : State} {code : ResultCode} {detail : Byte} (hc : s.check = (code, detail)) :
    s.conclude =
      { s with rspState := if code = .ok then .valid else .none, result := code, detail := detail } := by
  rw [State.conclude, hc]
  rfl

/-! ### The validation (R145) -/

/-- Nothing is missing exactly when a request is built and a response parsed. -/
theorem State.validateMissing_eq_zero_iff (s : State) :
    s.validateMissing = 0x00#8 ↔ s.reqBuilt = true ∧ s.rspState = .parsed := by
  unfold State.validateMissing
  cases s.reqBuilt <;> cases s.rspState <;> decide

/-- The two conditions have bits of their own, so the mask is also their sum. -/
theorem State.validateMissing_eq_add (s : State) :
    s.validateMissing =
      (if s.reqBuilt then 0x00#8 else 0x10#8) + (if s.rspState = .parsed then 0x00#8 else 0x20#8) := by
  unfold State.validateMissing
  cases s.reqBuilt <;> cases s.rspState <;> rfl

/-- An enabled RSP_VALIDATE with nothing missing ends as its checks say. -/
theorem exec_rspValidate_of_check {s : State} {code : ResultCode} {detail : Byte} (hf : s.fault = false)
    (hb : s.busy = false) (hbuilt : s.reqBuilt = true) (hparsed : s.rspState = .parsed)
    (hc : s.check = (code, detail)) :
    exec .rspValidate s = .next
      { s with rspState := if code = .ok then .valid else .none, result := code, detail := detail } := by
  have hm : s.validateMissing = 0x00#8 := s.validateMissing_eq_zero_iff.mpr ⟨hbuilt, hparsed⟩
  exact exec_of_effect hf (.inl hb) (.inr ⟨hm, (State.conclude_of_check hc).symm⟩)

/-- Settles O31: what is missing is the effect's first alternative; with nothing missing the first failing check gives
the outcome. -/
theorem rspValidateChecksInOrder : Obligations.RspValidateChecksInOrder := by
  refine ⟨rfl, fun s hf => ⟨fun hb hmiss => ?_, fun hb hbuilt hparsed _ => ?_, exec_response_busy rfl hf,
    fun _ hb => writeCommand_superfluousOperand (m := .RSP_VALIDATE) rfl hb hf⟩⟩
  · have hm : s.validateMissing ≠ 0x00#8 := mt s.validateMissing_eq_zero_iff.mp hmiss
    rw [← s.validateMissing_eq_add]
    exact exec_of_effect hf (.inl hb) (.inl ⟨hm, rfl⟩)
  · have hrun {code : ResultCode} {detail : Byte} (hc : s.check = (code, detail)) :=
      exec_rspValidate_of_check hf hb hbuilt hparsed hc
    refine ⟨fun hsum => ?_, fun _ hsum haddr => ?_, fun _ hsum haddr hfunc => ?_, fun _ hsum haddr hfunc => ?_⟩
    · exact hrun (State.check_of_not_sumMatches (mt s.sumMatches_iff.mp hsum))
    · exact hrun (State.check_of_address_ne (s.sumMatches_iff.mpr hsum) haddr)
    · exact hrun (State.check_of_function_ne (s.sumMatches_iff.mpr hsum) haddr hfunc)
    · exact hrun (State.check_of_echo (s.sumMatches_iff.mpr hsum) haddr hfunc)

end Sys2Proof.Machine
end

section
/-! SUPPORT. Proofs about the session family (spec/43_session.md): the two commands in a state without a fault, the
other families with the transport released, and the transport's answers. -/

namespace Sys2Proof.Machine

/-! ### SES_TRANSACT (R160) -/

/-- Bit 6 of what SES_TRANSACT finds missing stands for the transport. -/
theorem State.transactMissing_getLsbD_six (s : State) : s.transactMissing.getLsbD 6 = !s.xport := by
  obtain ⟨-, -, -, hhigh⟩ := s.missing_getLsbD
  rw [State.transactMissing, BitVec.getLsbD_or, hhigh 6 (by decide)]
  cases s.xport <;> rfl

/-- Its other bits are those of R127. -/
theorem State.transactMissing_getLsbD_of_ne_six (s : State) {k : Nat} (hk : k ≠ 6) :
    s.transactMissing.getLsbD k = s.missing.getLsbD k := by
  have h40 : (0x40#8).getLsbD k = false := by
    change (BitVec.twoPow 8 6).getLsbD k = false
    simp [BitVec.getLsbD_twoPow, hk.symm]
  cases hx : s.xport <;> simp [State.transactMissing, hx, h40]

/-- The mask bit by bit, as R160 writes it. -/
theorem State.transactMissing_getLsbD (s : State) :
    s.transactMissing.getLsbD 0 = !s.addrSet ∧ s.transactMissing.getLsbD 1 = !s.funcSet
      ∧ s.transactMissing.getLsbD 2 = !s.paySet ∧ s.transactMissing.getLsbD 6 = !s.xport
      ∧ ∀ k, 3 ≤ k → k ≠ 6 → s.transactMissing.getLsbD k = false := by
  obtain ⟨h0, h1, h2, hhigh⟩ := s.missing_getLsbD
  have hlow {k : Nat} (hk : k ≠ 6) := s.transactMissing_getLsbD_of_ne_six hk
  exact ⟨(hlow (by decide)).trans h0, (hlow (by decide)).trans h1, (hlow (by decide)).trans h2,
    s.transactMissing_getLsbD_six, fun k hk hne => (hlow hne).trans (hhigh k hk)⟩

/-- Nothing is missing exactly when all three fields were set and the transport is attached. -/
theorem State.transactMissing_eq_zero_iff (s : State) :
    s.transactMissing = 0x00#8 ↔ s.addrSet = true ∧ s.funcSet = true ∧ s.paySet = true ∧ s.xport = true := by
  have hx : (if s.xport then 0x00#8 else 0x40#8) = 0x00#8 ↔ s.xport = true := by
    cases s.xport <;> decide
  rw [State.transactMissing, BitVec.or_eq_zero_iff, hx, s.missing_eq_zero_iff, and_assoc, and_assoc]

/-- SES_TRANSACT with something missing writes RESULT and DETAIL alone. -/
theorem exec_sesTransact_refused {s : State} (hf : s.fault = false) (hb : s.busy = false)
    (hmiss : ¬ (s.addrSet = true ∧ s.funcSet = true ∧ s.paySet = true ∧ s.xport = true)) :
    exec .sesTransact s = .next (s.finish .invalidState s.transactMissing) :=
  exec_of_effect hf (.inl hb) (.inl ⟨mt s.transactMissing_eq_zero_iff.mp hmiss, rfl⟩)

/-- Settles O34: the effect's two alternatives are an empty and a non-empty mask of missing conditions. -/
theorem sesTransactTransmitsTheFrame : Obligations.SesTransactTransmitsTheFrame := by
  refine ⟨rfl, fun s hf => ⟨fun hb ha hu hp hx => ?_, fun hb hmiss => ?_,
    exec_busy (i := .sesTransact) nofun hf,
    fun _ hb => writeCommand_superfluousOperand (m := .SES_TRANSACT) rfl hb hf⟩⟩
  · exact exec_of_effect hf (.inl hb) (.inr ⟨s.transactMissing_eq_zero_iff.mpr ⟨ha, hu, hp, hx⟩, rfl⟩)
  · exact ⟨s.transactMissing, exec_sesTransact_refused hf hb hmiss, s.transactMissing_getLsbD⟩

/-! ### SES_RELEASE and the commands after it (R162) -/

theorem exec_sesRelease {s : State} (hf : s.fault = false) (hb : s.busy = false) :
    exec .sesRelease s = .next { s with xport := false, result := .ok, detail := 0x00#8 } :=
  exec_of_effect hf (.inl hb) rfl

/-- No command outside the session family reads or writes XPORT. -/
theorem Effect.released {i : Instr} (hi : family i ≠ .session) {s t : State} (h : Effect i s t) :
    Effect i { s with xport := false } { t with xport := false } := by
  cases i <;> simp only [Effect] at h
  case sesTransact | sesRelease => exact absurd rfl hi
  case crcInit | crcByte | reqClear | reqPayloadBegin | rspClear => subst h; rfl
  case reqPayloadByte =>
    rcases h with ⟨hp, rfl⟩ | ⟨hp, hl, rfl⟩ | ⟨hp, hl, rfl⟩
    · exact .inl ⟨hp, rfl⟩
    · exact .inr (.inl ⟨hp, hl, rfl⟩)
    · exact .inr (.inr ⟨hp, hl, rfl⟩)
  all_goals
    rcases h with ⟨hc, rfl⟩ | ⟨hc, rfl⟩
    · exact .inl ⟨hc, rfl⟩
    · exact .inr ⟨hc, rfl⟩

/-- A command outside the session family does the same with the transport released. -/
theorem exec_released {i : Instr} (hi : family i ≠ .session) {s t : State} (h : exec i s = .next t) :
    exec i { s with xport := false } = .next { t with xport := false } := by
  rcases exec_cases h with ⟨hf, rfl⟩ | ⟨hf, hb, hc, rfl⟩ | ⟨hf, hb, he⟩
  · exact exec_faulted i hf
  · exact exec_busy hc hf hb
  · exact exec_of_effect hf hb (he.released hi)

/-- Settles O35: the state after a release is idle and released, so a second release rewrites its own values. -/
theorem sesReleaseClearsTheTransport : Obligations.SesReleaseClearsTheTransport := by
  refine ⟨rfl, fun s hf => ⟨exec_sesRelease hf, fun hb t h => ?_, fun hb hx => ?_,
    exec_busy (i := .sesRelease) nofun hf,
    fun _ hb => writeCommand_superfluousOperand (m := .SES_RELEASE) rfl hb hf⟩,
    fun _ _ _ hi h => exec_released hi h⟩
  · obtain rfl := Host.Outcome.next.inj ((exec_sesRelease hf hb).symm.trans h)
    exact exec_sesRelease hf hb
  · have hbit : s.transactMissing.getLsbD 6 = true := by
      rw [s.transactMissing_getLsbD_six, hx]
      rfl
    exact ⟨_, exec_sesTransact_refused hf hb (by simp [hx]), rfl, hbit⟩

/-! ### The transport's answers -/

theorem step_answer {s : State} {a : Answer} {ts : List Turn} (ht : s.turns = .answer a :: ts) :
    step s = .next (takeAnswer a { s with turns := ts }) := by
  simp only [step, ht, takeTurn]

/-- An answer to a faulted block, as a step. -/
theorem step_answer_of_fault {s : State} {a : Answer} {ts : List Turn} (ht : s.turns = .answer a :: ts)
    (hf : s.fault = true) : step s = .next { s with turns := ts, pending := none } :=
  (step_answer ht).trans (congrArg _ (takeAnswer_of_fault a hf))

/-- An answer with nothing pending (R167(b)). -/
theorem takeAnswer_unsolicited (a : Answer) {s : State} (hp : s.pending = none) (hf : s.fault = false) :
    takeAnswer a s = s.raiseFault .transportUnsolicited := by
  rw [← State.raiseFirst_of_not_fault _ hf]
  cases a with
  | noResponse => simpa [takeAnswer, hp] using takeNoResponse_cases s
  | deliver bytes => simpa [takeAnswer, hp] using takeDelivery_cases bytes s

/-- The state an exchange's delivery is parsed in: the exchange over, RX holding the bytes (R166). -/
def State.delivered (s : State) (bytes : List Byte) : State :=
  { s with pending := none, busy := false, rx := bytes }

section
variable {s : State} {n : Nat} (hp : s.pending = some n) (hf : s.fault = false)
include hp hf

/-- NoResponse in an exchange (R165). -/
theorem takeNoResponse_of_pending :
    takeNoResponse s = { s with pending := none, busy := false }.finish .noResponse 0x00#8 := by
  simpa [hp, hf] using takeNoResponse_cases s

/-- A delivery of more than PEND_LEN bytes (R167(a)). -/
theorem takeDelivery_overrun {bytes : List Byte} (hn : n < bytes.length) :
    takeDelivery bytes s = { s with pending := none }.raiseFault .transportOverrun := by
  simpa [hp, hf, hn, hn.not_ge] using takeDelivery_cases bytes s

/-- A delivery of fewer than EXPLEN bytes (R166). -/
theorem takeDelivery_short {bytes : List Byte} (hn : bytes.length ≤ n) (he : bytes.length < s.explen) :
    takeDelivery bytes s =
      { s.delivered bytes with rspState := .none }.finish
        .malformedResponse (lenByte bytes.length) := by
  simpa [State.delivered, hp, hf, hn, hn.not_gt, he, he.not_ge] using takeDelivery_cases bytes s

/-- A delivery of EXPLEN bytes or more is validated (R166). -/
theorem takeDelivery_full {bytes : List Byte} (hn : bytes.length ≤ n) (he : s.explen ≤ bytes.length) :
    takeDelivery bytes s = (s.delivered bytes).conclude := by
  simpa [State.delivered, hp, hf, hn, hn.not_gt, he, he.not_gt] using takeDelivery_cases bytes s

/-- A full delivery as a step, by the outcome of its checks. -/
theorem step_delivery_of_check {bytes : List Byte} {ts : List Turn} {code : ResultCode} {detail : Byte}
    (ht : s.turns = .answer (.deliver bytes) :: ts) (hn : bytes.length ≤ n) (he : s.explen ≤ bytes.length)
    (hc : ({ s with turns := ts }.delivered bytes).check = (code, detail)) :
    step s = .next
      { { s with turns := ts }.delivered bytes with
        rspState := if code = .ok then .valid else .none, result := code, detail := detail } := by
  rw [step_answer ht, ← State.conclude_of_check hc]
  exact congrArg _ (takeDelivery_full (s := { s with turns := ts }) hp hf hn he)

end

/-- Settles O37, by the event's two cases. -/
theorem noResponseEndsTheExchange : Obligations.NoResponseEndsTheExchange := by
  refine fun s n ts ht hp => ⟨fun hf => ?_, step_answer_of_fault ht⟩
  exact (step_answer ht).trans (congrArg _ (takeNoResponse_of_pending (s := { s with turns := ts }) hp hf))

/-- Settles O38: a full delivery is validated as RSP_VALIDATE validates, the first failing check giving the outcome. -/
theorem deliveryIsParsedAndValidated : Obligations.DeliveryIsParsedAndValidated := by
  intro s bytes n ts ht hp hn
  refine ⟨step_answer_of_fault ht, fun hf he => ?_, fun hf he => ?_⟩
  · exact (step_answer ht).trans (congrArg _ (takeDelivery_short (s := { s with turns := ts }) hp hf hn he))
  · have hrun {code detail} (hc : ({ s with turns := ts }.delivered bytes).check = (code, detail)) :=
      step_delivery_of_check hp hf ht hn he.ge hc
    have hiff := ({ s with turns := ts }.delivered bytes).sumMatches_iff
    refine ⟨fun hsum => ?_, fun _ hsum haddr => ?_, fun _ hsum haddr hfunc => ?_, fun _ hsum haddr hfunc => ?_⟩
    · exact hrun (State.check_of_not_sumMatches (mt hiff.mp hsum))
    · exact hrun (State.check_of_address_ne (hiff.mpr hsum) haddr)
    · exact hrun (State.check_of_function_ne (hiff.mpr hsum) haddr hfunc)
    · exact hrun (State.check_of_echo (hiff.mpr hsum) haddr hfunc)

/-- Settles O39: a faulted block only clears PENDING, and with nothing pending there is nothing to clear. -/
theorem contractViolationsFault : Obligations.ContractViolationsFault := by
  refine fun s ts => ⟨fun bytes n ht hp hn => ⟨fun hf => ?_, step_answer_of_fault ht⟩,
    fun a ht hp => ⟨fun hf => ?_, fun hf => ?_⟩⟩
  · exact (step_answer ht).trans (congrArg _ (takeDelivery_overrun (s := { s with turns := ts }) hp hf hn))
  · exact (step_answer ht).trans (congrArg _ (takeAnswer_unsolicited a (s := { s with turns := ts }) hp hf))
  · rw [step_answer_of_fault ht hf, hp]

end Sys2Proof.Machine
end

section
/-! SUPPORT. Proofs about the exceptions (spec/60_exceptions.md): the order of the checks before a command's own rule. -/

namespace Sys2Proof.Machine

/-! ### A command write, told by the decoder's answer -/

theorem writeCommand_of_ok {w : Word} {i : Instr} (h : decode w = .ok i) (s : State) : writeCommand w s = exec i s := by
  simp only [writeCommand, h]

theorem exists_error_of_forall_ne_ok {w : Word} (h : ∀ i, decode w ≠ .ok i) : ∃ e, decode w = .error e := by
  rcases hd : decode w with e | i
  · exact ⟨e, rfl⟩
  · exact absurd hd (h i)

/-- An existing fault comes before the check for an illegal word. -/
theorem writeCommand_of_fault (w : Word) {s : State} (hf : s.fault = true) : writeCommand w s = .next s := by
  rcases hd : decode w with e | i
  · rw [writeCommand_of_error hd, State.raiseFirst_of_fault _ hf]
  · rw [writeCommand_of_ok hd, exec_faulted i hf]

/-! ### An enabled command raises no fault -/

/-- No command's own rule writes FAULT (R204, R206). -/
theorem Effect.fault {i : Instr} {s t : State} (h : Effect i s t) : t.fault = s.fault := by
  cases i <;> simp only [Effect] at h
  case crcInit | crcByte | reqClear | reqPayloadBegin | rspClear | sesRelease => subst h; rfl
  case reqPayloadByte => rcases h with ⟨-, rfl⟩ | ⟨-, -, rfl⟩ | ⟨-, -, rfl⟩ <;> rfl
  all_goals rcases h with ⟨-, rfl⟩ | ⟨-, rfl⟩ <;> rfl

/-- Settles O7, check by check: the decoder's answer gives the first two, the family and BUSY the other two. -/
theorem commandCheckOrder : Obligations.CommandCheckOrder := by
  refine fun w s => ⟨writeCommand_of_fault w, fun hf hill => ?_, fun i hd hf hb hi => ?_, fun i hd hf hb => ?_⟩
  · obtain ⟨e, he⟩ := exists_error_of_forall_ne_ok hill
    rw [writeCommand_of_error he, State.raiseFirst_of_not_fault _ hf]
    rfl
  · exact (writeCommand_of_ok hd s).trans (exec_busy hi hf hb)
  · obtain ⟨t, ht, he⟩ := exec_enabled hf hb
    exact ⟨writeCommand_of_ok hd s, t, ht, he.fault.trans hf⟩

end Sys2Proof.Machine
end

section
/-! SUPPORT. Proofs about reset (spec/70_reset_and_hazards.md): the step that takes a reset turn. -/

namespace Sys2Proof.Machine

/-- A reset turn is taken in every state, with no check before it (R240). -/
theorem step_reset {s : State} {ts : List Turn} (ht : s.turns = .reset :: ts) :
    step s = .next { s with turns := ts }.resetBlock := by
  simp only [step, ht, takeTurn]

/-- Settles O42: the turn is consumed, and what the block then holds is the table of R39 as `resetBlock` writes it. -/
theorem resetSetsEveryElement : Obligations.ResetSetsEveryElement := by
  intro s hr
  obtain ⟨ts, ht⟩ := List.head?_eq_some_iff.mp hr
  exact ⟨{ s with turns := ts }.resetBlock, step_reset ht, rfl⟩

end Sys2Proof.Machine
end

section
/-! SUPPORT. Decoding, encoding and assembling agree (spec/30_encoding.md): a command is its mnemonic with its operand
byte. -/

namespace Sys2Proof

/-! ### A command is its mnemonic and its operand byte -/

theorem Instr.command_line (i : Instr) : i.line.mnemonic.command i.imm = i := by
  cases i <;> rfl

theorem Instr.accepts_imm (i : Instr) : i.line.mnemonic.accepts i.imm := by
  cases i <;> simp [Mnemonic.accepts, Instr.line, Mnemonic.takesOperand, Instr.imm]

/-- The operand byte of a mnemonic's command, where the byte may stand with the mnemonic. -/
theorem Mnemonic.imm_command {m : Mnemonic} {b : Byte} (h : m.accepts b) : (m.command b).imm = b := by
  cases m <;> simp_all [Mnemonic.accepts, Mnemonic.takesOperand, Mnemonic.command, Instr.imm]

theorem decode_encode (i : Instr) : decode (encode i) = .ok i := by
  refine decode_ok_iff.mpr ⟨i.line.mnemonic, ?_, ?_, ?_⟩
  · rw [encode, opField_append]
  · rw [encode, immField_append]
    exact i.accepts_imm
  · rw [encode, immField_append]
    exact i.command_line

theorem encode_decode {w : Word} {i : Instr} (h : decode w = .ok i) : encode i = w := by
  obtain ⟨m, hop, ha, rfl⟩ := decode_ok_iff.mp h
  rw [encode, Mnemonic.command_mnemonic, Mnemonic.imm_command ha, hop, append_fields]

/-- Settles O3, by the decoder's characterisation through the mnemonics. -/
theorem decodeEncodeAgree : Obligations.DecodeEncodeAgree :=
  ⟨decode_encode, fun _ _ => encode_decode⟩

/-- Settles O2, by evaluating the decoder on the seven words. -/
theorem sampleWordsDecodeAsWritten : Obligations.SampleWordsDecodeAsWritten := by
  unfold Obligations.SampleWordsDecodeAsWritten
  decide

/-! ### The assembler (R76) -/

theorem assemble_line (i : Instr) : i.line.wellFormed = true ∧ assemble i.line = some (encode i) := by
  cases i with
  | crcInit => exact Laws.AssembledAsEncoded.crcInit
  | crcByte b => exact Laws.AssembledAsEncoded.crcByte b
  | reqClear => exact Laws.AssembledAsEncoded.reqClear
  | reqAddr a => exact Laws.AssembledAsEncoded.reqAddr a
  | reqFunc f => exact Laws.AssembledAsEncoded.reqFunc f
  | reqPayloadBegin => exact Laws.AssembledAsEncoded.reqPayloadBegin
  | reqPayloadByte b => exact Laws.AssembledAsEncoded.reqPayloadByte b
  | reqBuild => exact Laws.AssembledAsEncoded.reqBuild
  | rspSetsize n => exact Laws.AssembledAsEncoded.rspSetsize n
  | rspClear => exact Laws.AssembledAsEncoded.rspClear
  | rspByte b => exact Laws.AssembledAsEncoded.rspByte b
  | rspParse => exact Laws.AssembledAsEncoded.rspParse
  | rspValidate => exact Laws.AssembledAsEncoded.rspValidate
  | sesTransact => exact Laws.AssembledAsEncoded.sesTransact
  | sesRelease => exact Laws.AssembledAsEncoded.sesRelease

theorem AsmLine.wellFormed_iff (l : AsmLine) :
    l.wellFormed = true ↔
      (l.mnemonic.takesOperand = true ∧ ∃ n, n ≤ 255 ∧ l.imm = some n)
        ∨ (l.mnemonic.takesOperand = false ∧ l.imm = none) := by
  unfold AsmLine.wellFormed
  cases l.mnemonic.takesOperand <;> cases l.imm <;> simp

/-- The source line of a mnemonic's command. -/
theorem Mnemonic.line_command (m : Mnemonic) (b : Byte) :
    (m.command b).line = ⟨m, if m.takesOperand then some b.toNat else none⟩ := by
  cases m <;> rfl

/-- Every well-formed line is the line of a command. -/
theorem AsmLine.exists_line {l : AsmLine} (h : l.wellFormed = true) : ∃ i : Instr, i.line = l := by
  obtain ⟨m, imm⟩ := l
  rcases (AsmLine.wellFormed_iff _).mp h with ⟨hm, n, hn, rfl⟩ | ⟨hm, rfl⟩
  · refine ⟨m.command (BitVec.ofNat 8 n), ?_⟩
    have hb : (BitVec.ofNat 8 n).toNat = n := Nat.mod_eq_of_lt (by omega)
    rw [Mnemonic.line_command, hb, if_pos hm]
  · refine ⟨m.command 0x00#8, ?_⟩
    rw [Mnemonic.line_command, if_neg (by simp [hm])]

/-- Settles O5: a well-formed line is some command's line, and that one assembles to the command's word. -/
theorem assemblerAgreesWithDecoder : Obligations.AssemblerAgreesWithDecoder := by
  refine ⟨assemble_line, fun l => ⟨l.wellFormed_iff, fun h => ?_, fun h => ?_⟩⟩
  · obtain ⟨i, rfl⟩ := AsmLine.exists_line h
    exact ⟨i, encode i, (assemble_line i).2, decode_encode i, rfl⟩
  · rw [assemble, if_neg (by simp [h])]

end Sys2Proof
end

section
/-! SUPPORT. Proofs about single steps (spec/00_scope.md R10, R11; 60_exceptions.md R204 to R206): a step always goes on,
what it can be, where a fault comes from, and when nothing is left to do. -/

namespace Sys2Proof.Machine

/-! ### Every step and every command goes on -/

/-- Settles O6: the host's turn is its next action, and the word written is the command it decodes to. -/
theorem stepRunsDecodedCommand : Obligations.StepRunsDecodedCommand := by
  intro s w i ts rest ht hh hd
  rw [step_host ht, ← writeCommand_of_ok hd]
  simp only [hostTurn, hh]

theorem exec_goes_on (i : Instr) (s : State) : ∃ t, exec i s = .next t := by
  by_cases hf : s.fault = true
  · exact ⟨s, exec_faulted i hf⟩
  have hf : s.fault = false := by simpa using hf
  by_cases he : s.busy = false ∨ family i = .crc
  · obtain ⟨t, ht, -⟩ := exec_enabled hf he
    exact ⟨t, ht⟩
  · obtain ⟨hb, hi⟩ := not_or.mp he
    exact ⟨_, exec_busy hi hf (by simpa using hb)⟩

theorem writeCommand_goes_on (w : Word) (s : State) : ∃ t, writeCommand w s = .next t := by
  rcases hd : decode w with e | i
  · exact ⟨_, writeCommand_of_error hd s⟩
  · rw [writeCommand_of_ok hd]
    exact exec_goes_on i s

theorem hostTurn_goes_on (s : State) : ∃ t, hostTurn s = .next t := by
  unfold hostTurn
  split
  · exact ⟨_, rfl⟩
  · exact writeCommand_goes_on _ _
  · exact ⟨_, rfl⟩
  · exact ⟨_, rfl⟩

theorem step_goes_on (s : State) : ∃ t, step s = .next t := by
  unfold step
  split
  · exact ⟨_, rfl⟩
  next turn ts _ =>
    cases turn with
    | host => exact hostTurn_goes_on _
    | answer a => exact ⟨_, rfl⟩
    | reset => exact ⟨_, rfl⟩

/-- Settles O9, agent by agent. -/
theorem everyStepGoesOn : Obligations.EveryStepGoesOn :=
  ⟨step_goes_on, exec_goes_on⟩

/-! ### What a step can be, the block's change apart from the two lists -/

/-- A command that meets a fault or a busy block, told by what it leaves: nothing changed, or CONCURRENT_USE raised. -/
theorem exec_kinds {i : Instr} {s t : State} (h : exec i s = .next t) :
    t = s ∨ (s.fault = false ∧ t = s.raiseFault .concurrentUse)
      ∨ (s.fault = false ∧ (s.busy = false ∨ family i = .crc) ∧ Effect i s t) := by
  rcases exec_cases h with ⟨-, rfl⟩ | ⟨hf, -, -, rfl⟩ | he
  · exact .inl rfl
  · exact .inr (.inl ⟨hf, rfl⟩)
  · exact .inr (.inr he)

/-- An answer with nothing pending raises TRANSPORT_UNSOLICITED unless a fault stands already (R167(b)). -/
theorem takeAnswer_of_not_pending (a : Answer) {s : State} (hp : s.pending = none) :
    takeAnswer a s = s.raiseFirst .transportUnsolicited := by
  rcases s.raiseFirst_cases .transportUnsolicited with ⟨hf, h⟩ | ⟨hf, h⟩ <;> rw [h]
  · rw [takeAnswer_of_fault a hf, ← hp]
  · exact takeAnswer_unsolicited a hp hf

/-- What a step can do to the block: nothing, raise a fault, have an enabled command's effect, take the answer to a
pending request, or reset it. -/
theorem step_kinds {s t : State} (h : step s = .next t) :
    t = { s with host := t.host, turns := t.turns }
      ∨ (∃ c, c ≠ FaultCode.none ∧ s.fault = false
          ∧ t = { s with fault := true, faultCode := c, host := t.host, turns := t.turns })
      ∨ (∃ i hs ts, s.runsNext i ∧ s.fault = false ∧ (s.busy = false ∨ family i = .crc)
          ∧ Effect i { s with host := hs, turns := ts } t)
      ∨ (∃ a n ts, s.turns.head? = some (.answer a) ∧ s.pending = some n ∧ t = takeAnswer a { s with turns := ts })
      ∨ (∃ ts, s.resetsNext ∧ t = { s with turns := ts }.resetBlock) := by
  rcases step_cases h with ⟨-, rfl⟩ | ⟨ts, rest, w, i, ht, hh, hd, he⟩ | ⟨ts, rest, w, e, -, -, -, rfl⟩
    | ⟨ts, -, -, rfl | rfl⟩ | ⟨ts, a, ht, rfl⟩ | ⟨ts, ht, rfl⟩
  · exact .inl rfl
  · rcases exec_kinds he with rfl | ⟨hf, rfl⟩ | ⟨hf, hb, he⟩
    · exact .inl rfl
    · exact .inr (.inl ⟨_, by decide, hf, rfl⟩)
    · exact .inr (.inr (.inl ⟨i, rest, ts, ⟨congrArg List.head? ht, w, congrArg List.head? hh, hd⟩, hf, hb, he⟩))
  · rcases { s with turns := ts, host := rest }.raiseFirst_cases .illegalCommand with ⟨-, h⟩ | ⟨hf, h⟩ <;> rw [h]
    · exact .inl rfl
    · exact .inr (.inl ⟨_, by decide, hf, rfl⟩)
  · exact .inl rfl
  · exact .inl rfl
  · rcases s.pending.eq_none_or_eq_some with hp | ⟨n, hp⟩
    · rw [takeAnswer_of_not_pending a (s := { s with turns := ts }) hp]
      rcases { s with turns := ts }.raiseFirst_cases .transportUnsolicited with ⟨-, h⟩ | ⟨hf, h⟩ <;> rw [h]
      · exact .inl rfl
      · exact .inr (.inl ⟨_, by decide, hf, rfl⟩)
    · exact .inr (.inr (.inr (.inl ⟨a, n, ts, congrArg List.head? ht, hp, rfl⟩)))
  · exact .inr (.inr (.inr (.inr ⟨ts, congrArg List.head? ht, rfl⟩)))

/-- All that the answer to a pending request can do. -/
theorem takeAnswer_cases (a : Answer) {s : State} {n : Nat} (hp : s.pending = some n) :
    (s.fault = true ∧ takeAnswer a s = { s with pending := none })
      ∨ (s.fault = false ∧ a = .noResponse
          ∧ takeAnswer a s = { s with pending := none, busy := false }.finish .noResponse 0x00#8)
      ∨ (∃ bytes, s.fault = false ∧ a = .deliver bytes ∧ n < bytes.length
          ∧ takeAnswer a s = { s with pending := none }.raiseFault .transportOverrun)
      ∨ (∃ bytes, s.fault = false ∧ a = .deliver bytes ∧ bytes.length ≤ n ∧ bytes.length < s.explen
          ∧ takeAnswer a s =
            { s.delivered bytes with rspState := .none }.finish .malformedResponse (lenByte bytes.length))
      ∨ (∃ bytes, s.fault = false ∧ a = .deliver bytes ∧ bytes.length ≤ n ∧ s.explen ≤ bytes.length
          ∧ takeAnswer a s = (s.delivered bytes).conclude) := by
  by_cases hft : s.fault = true
  · exact .inl ⟨hft, takeAnswer_of_fault a hft⟩
  · have hf : s.fault = false := by simpa using hft
    right
    cases a with
    | noResponse => exact .inl ⟨hf, rfl, takeNoResponse_of_pending hp hf⟩
    | deliver bytes =>
      right
      by_cases hn : n < bytes.length
      · exact .inl ⟨bytes, hf, rfl, hn, takeDelivery_overrun hp hf hn⟩
      have hn : bytes.length ≤ n := by omega
      by_cases he : bytes.length < s.explen
      · exact .inr (.inl ⟨bytes, hf, rfl, hn, he, takeDelivery_short hp hf hn he⟩)
      · exact .inr (.inr ⟨bytes, hf, rfl, hn, by omega, takeDelivery_full hp hf hn (by omega)⟩)

/-! ### The causes of a fault (R206) -/

/-- Only an over-long delivery makes the answer to a pending request raise a fault. -/
theorem takeAnswer_raises {a : Answer} {s : State} {n : Nat} (hp : s.pending = some n) (hf : s.fault = false)
    (ht : (takeAnswer a s).fault = true) :
    ∃ bytes, a = .deliver bytes ∧ n < bytes.length
      ∧ takeAnswer a s = { s with pending := none }.raiseFault .transportOverrun := by
  rcases takeAnswer_cases a hp with ⟨hf', -⟩ | ⟨-, -, h⟩ | ⟨bytes, -, rfl, hn, h⟩ | ⟨bytes, -, -, -, -, h⟩
    | ⟨bytes, -, -, -, -, h⟩
  · simp [hf] at hf'
  · simp [h, hf] at ht
  · exact ⟨bytes, rfl, hn, h⟩
  · simp [h, State.delivered, hf] at ht
  · simp [h, State.delivered, hf] at ht

/-- Settles O10, by the step's cases: each either keeps FAULT at 0 or is one of the four causes. -/
theorem faultsHaveTheirCauses : Obligations.FaultsHaveTheirCauses := by
  intro s t hf h htf
  rcases step_cases h with ⟨-, rfl⟩ | ⟨ts, rest, w, i, ht, hh, hd, he⟩ | ⟨ts, rest, w, e, ht, hh, hd, rfl⟩
    | ⟨ts, -, -, rfl | rfl⟩ | ⟨ts, a, ht, rfl⟩ | ⟨ts, -, rfl⟩
  · simp [hf] at htf
  · rcases exec_cases he with ⟨hf', -⟩ | ⟨-, hb, hi, rfl⟩ | ⟨-, -, heff⟩
    · simp [hf] at hf'
    · exact .inr (.inl ⟨i, ⟨congrArg List.head? ht, w, congrArg List.head? hh, hd⟩, hi, hb, rfl, rfl⟩)
    · simp [heff.fault, hf] at htf
  · rw [State.raiseFirst_of_not_fault (s := { s with turns := ts, host := rest }) _ hf]
    exact .inl ⟨w, ⟨congrArg List.head? ht, congrArg List.head? hh⟩, by simp [hd], rfl, rfl⟩
  · simp [hf] at htf
  · simp [hf] at htf
  · rcases s.pending.eq_none_or_eq_some with hp | ⟨n, hp⟩
    · rw [takeAnswer_unsolicited a (s := { s with turns := ts }) hp hf]
      exact .inr (.inr (.inr ⟨a, congrArg List.head? ht, hp, rfl, rfl⟩))
    · obtain ⟨bytes, rfl, hn, h⟩ := takeAnswer_raises (s := { s with turns := ts }) hp hf htf
      rw [h]
      exact .inr (.inr (.inl ⟨bytes, n, congrArg List.head? ht, hp, hn, rfl, rfl⟩))
  · simp [State.reset] at htf

/-! ### WAIT and the end of a run (30_encoding.md R76, 70_reset_and_hazards.md R247) -/

/-- The bits of STATUS (R29). -/
theorem State.status_getLsbD (s : State) (k : Nat) :
    s.status.getLsbD k =
      if k = 0 then s.busy else if k = 1 then s.fault else if k = 2 then s.reqBuilt else if k = 3 then s.xport
      else if k = 4 then decide (s.rspState = .parsed) else if k = 5 then decide (s.rspState = .valid) else false := by
  simp only [State.status, BitVec.getLsbD_append, BitVec.getLsbD_ofBool]
  match k with
  | 0 | 1 | 2 | 3 => simp
  | 4 | 5 => cases s.rspState <;> rfl
  | k + 6 => simp

theorem waitAgain_eq (s : State) : waitAgain s = s.busy :=
  s.status_getLsbD 0

/-- Settles O54: WAIT reads bit 0 of STATUS, which is BUSY. -/
theorem waitHoldsWhileBusy : Obligations.WaitHoldsWhileBusy := by
  intro s ts rest ht hh
  have hstep : step s = .next (if s.busy then { s with turns := ts } else { s with turns := ts, host := rest }) := by
    rw [step_host ht]
    simp only [hostTurn, hh, waitAgain_eq]
  exact ⟨fun hb => by simp [hstep, hb], fun hb => by simp [hstep, hb]⟩

theorem head?_ne_write_of_ended {s : State} (h : s.ended) (w : Word) : s.host.head? ≠ some (.write w) := by
  intro hw
  have hall := List.all_eq_true.mp h.1 _ (List.mem_of_head? hw)
  exact Bool.false_ne_true hall

/-- Settles O60: with no word left to write, a host's turn takes at most a read or a WAIT off its list. -/
theorem endedRunStaysEnded : Obligations.EndedRunStaysEnded := by
  intro s t hend hans hres h
  obtain ⟨hhost, hrest⟩ := id hend
  rcases step_cases h with ⟨-, rfl⟩ | ⟨ts, rest, w, i, -, hh, -, -⟩ | ⟨ts, rest, w, e, -, hh, -, -⟩
    | ⟨ts, -, -, rfl | rfl⟩ | ⟨ts, a, ht, -⟩ | ⟨ts, ht, -⟩
  · exact ⟨rfl, hend, fun _ => rfl⟩
  · exact absurd (congrArg List.head? hh) (head?_ne_write_of_ended hend w)
  · exact absurd (congrArg List.head? hh) (head?_ne_write_of_ended hend w)
  · exact ⟨rfl, hend, readPort_environment s _ _ _⟩
  · have htail : s.host.tail.all (fun a => !a.isWrite) = true :=
      List.all_eq_true.mpr fun a ha => List.all_eq_true.mp hhost a (List.mem_of_mem_tail ha)
    exact ⟨rfl, ⟨htail, hrest⟩, readPort_environment s _ _ _⟩
  · exact absurd (congrArg List.head? ht) (hans a)
  · exact absurd (congrArg List.head? ht) hres

end Sys2Proof.Machine
end

section
/-! SUPPORT. What each family of commands and the transport's answers leave unchanged, and who writes what
(spec/10_state.md, 41_request.md to 43_session.md). -/

namespace Sys2Proof.Machine

/-! ### The frame of each family's effects -/

theorem Effect.crc_frame {i : Instr} (hi : family i = .crc) {s t : State} (h : Effect i s t) :
    t = { s with crc := t.crc } := by
  cases i <;> simp only [family, reduceCtorEq] at hi
  case crcInit | crcByte => cases h; rfl

theorem Effect.request_frame {i : Instr} (hi : family i = .request) {s t : State} (h : Effect i s t) :
    t = { s with reqAddr := t.reqAddr, reqFunc := t.reqFunc, addrSet := t.addrSet, funcSet := t.funcSet,
                 paySet := t.paySet, payload := t.payload, tx := t.tx, reqBuilt := t.reqBuilt, result := t.result,
                 detail := t.detail } := by
  cases i <;> simp only [family, reduceCtorEq] at hi
  case reqClear | reqPayloadBegin => cases h; rfl
  case reqAddr | reqFunc | reqBuild => rcases h with ⟨-, rfl⟩ | ⟨-, rfl⟩ <;> rfl
  case reqPayloadByte => rcases h with ⟨-, rfl⟩ | ⟨-, -, rfl⟩ | ⟨-, -, rfl⟩ <;> rfl

theorem Effect.response_frame {i : Instr} (hi : family i = .response) {s t : State} (h : Effect i s t) :
    t = { s with vsize := t.vsize, rspState := t.rspState, rx := t.rx, result := t.result, detail := t.detail } := by
  cases i <;> simp only [family, reduceCtorEq] at hi
  case rspClear => cases h; rfl
  case rspSetsize | rspByte | rspParse | rspValidate => rcases h with ⟨-, rfl⟩ | ⟨-, rfl⟩ <;> rfl

theorem Effect.session_frame {i : Instr} (hi : family i = .session) {s t : State} (h : Effect i s t) :
    t = { s with tx := t.tx, reqBuilt := t.reqBuilt, rx := t.rx, rspState := t.rspState, result := t.result,
                 detail := t.detail, xport := t.xport, busy := t.busy, pending := t.pending, txLog := t.txLog } := by
  cases i <;> simp only [family, reduceCtorEq] at hi
  case sesTransact => rcases h with ⟨-, rfl⟩ | ⟨-, rfl⟩ <;> rfl
  case sesRelease => cases h; rfl

/-! ### The frame of each family's commands: raising a fault beside the effects -/

theorem exec_request_frame {i : Instr} (hi : family i = .request) {s t : State} (h : exec i s = .next t) :
    t = { s with reqAddr := t.reqAddr, reqFunc := t.reqFunc, addrSet := t.addrSet, funcSet := t.funcSet,
                 paySet := t.paySet, payload := t.payload, tx := t.tx, reqBuilt := t.reqBuilt, result := t.result,
                 detail := t.detail, fault := t.fault, faultCode := t.faultCode } := by
  rcases exec_kinds h with rfl | ⟨-, rfl⟩ | ⟨-, -, he⟩
  · rfl
  · rfl
  · rw [he.request_frame hi]

theorem exec_response_frame {i : Instr} (hi : family i = .response) {s t : State} (h : exec i s = .next t) :
    t = { s with vsize := t.vsize, rspState := t.rspState, rx := t.rx, result := t.result, detail := t.detail,
                 fault := t.fault, faultCode := t.faultCode } := by
  rcases exec_kinds h with rfl | ⟨-, rfl⟩ | ⟨-, -, he⟩
  · rfl
  · rfl
  · rw [he.response_frame hi]

theorem exec_session_frame {i : Instr} (hi : family i = .session) {s t : State} (h : exec i s = .next t) :
    t = { s with tx := t.tx, reqBuilt := t.reqBuilt, rx := t.rx, rspState := t.rspState, result := t.result,
                 detail := t.detail, fault := t.fault, faultCode := t.faultCode, xport := t.xport, busy := t.busy,
                 pending := t.pending, txLog := t.txLog } := by
  rcases exec_kinds h with rfl | ⟨-, rfl⟩ | ⟨-, -, he⟩
  · rfl
  · rfl
  · rw [he.session_frame hi]

/-! ### Who writes an element -/

/-- An effect outside the CRC family does not write CRC. -/
theorem Effect.crc_eq {i : Instr} (hi : family i ≠ .crc) {s t : State} (h : Effect i s t) : t.crc = s.crc := by
  cases hfam : family i with
  | crc => exact absurd hfam hi
  | request => rw [h.request_frame hfam]
  | response => rw [h.response_frame hfam]
  | session => rw [h.session_frame hfam]

/-- CRC has two writers (R102, R103). -/
theorem Effect.crc_writers {i : Instr} {s t : State} (h : Effect i s t) :
    t.crc = s.crc ∨ (i = .crcInit ∧ t.crc = Config.crcInit) ∨ ∃ b, i = .crcByte b ∧ t.crc = crcStep s.crc b := by
  by_cases hi : family i = .crc
  · cases i <;> simp only [family, reduceCtorEq] at hi
    case crcInit => cases h; exact .inr (.inl ⟨rfl, rfl⟩)
    case crcByte b => cases h; exact .inr (.inr ⟨b, rfl, rfl⟩)
  · exact .inl (h.crc_eq hi)

section
variable {i : Instr} {s t : State} (h : Effect i s t)
include h

/-- The address and its flag have two writers (R122, R123). -/
theorem Effect.addr_writers :
    (t.reqAddr = s.reqAddr ∧ t.addrSet = s.addrSet) ∨ i = .reqClear ∨ ∃ a, i = .reqAddr a := by
  cases i <;> grind [Effect, State.finish, State.conclude]

/-- The function and its flag have two writers (R122, R124). -/
theorem Effect.func_writers :
    (t.reqFunc = s.reqFunc ∧ t.funcSet = s.funcSet) ∨ i = .reqClear ∨ ∃ f, i = .reqFunc f := by
  cases i <;> grind [Effect, State.finish, State.conclude]

/-- PAYLOAD and its flag have three writers (R122, R125, R126). -/
theorem Effect.payload_writers :
    (t.paySet = s.paySet ∧ t.payload = s.payload)
      ∨ ((i = .reqClear ∨ i = .reqPayloadBegin) ∧ t.payload = [])
      ∨ ∃ b, i = .reqPayloadByte b ∧ t.paySet = s.paySet ∧ t.payload = s.payload ++ [b] := by
  cases i <;> grind [Effect, State.finish, State.conclude]

/-- TX and REQ_BUILT have two writers, which store the frame of the builder's fields where all were set (R128, R160). -/
theorem Effect.tx_writers :
    (t.tx = s.tx ∧ t.reqBuilt = s.reqBuilt)
      ∨ ((i = .reqBuild ∨ i = .sesTransact) ∧ (s.addrSet = true ∧ s.funcSet = true ∧ s.paySet = true)
          ∧ t.tx = s.builderFrame ∧ t.reqBuilt = true) := by
  cases i <;> grind [Effect, State.finish, State.conclude, State.missing_eq_zero_iff, State.transactMissing_eq_zero_iff]

/-- VSIZE has one writer (R140). -/
theorem Effect.vsize_writers : t.vsize = s.vsize ∨ ∃ n, i = .rspSetsize n ∧ t.vsize = n := by
  cases i <;> grind [Effect, State.finish, State.conclude]

/-- BUSY, PENDING and TXLOG have one writer among the commands (R160). -/
theorem Effect.exchange_writers :
    (t.busy = s.busy ∧ t.pending = s.pending ∧ t.txLog = s.txLog)
      ∨ (i = .sesTransact ∧ s.transactMissing = 0x00#8 ∧ t.busy = true ∧ t.pending = some s.explen
          ∧ t.txLog = s.txLog ++ [⟨t.tx, s.explen⟩]) := by
  cases i <;> grind [Effect, State.finish, State.conclude]

end

/-! ### Reads that depend on some elements only (20_memory.md R52) -/

/-- The PAYLOAD window. -/
theorem readPort_payloadRegion {s t : State} {a : ReadAddr} (hlo : 0x100 ≤ a.toNat) (hhi : a.toNat < 0x200)
    (hp : t.payload = s.payload) : readPort t a = readPort s a := by
  simp only [readPort, if_neg hlo.not_gt, if_pos hhi, hp]

/-- The PAYLOAD and TX windows. -/
theorem readPort_requestRegion {s t : State} {a : ReadAddr} (hlo : 0x100 ≤ a.toNat) (hhi : a.toNat < 0x300)
    (hp : t.payload = s.payload) (htx : t.tx = s.tx) : readPort t a = readPort s a := by
  simp only [readPort, if_neg hlo.not_gt, if_pos hhi, hp, htx]

/-- The registers of VSIZE, EXPLEN, RXLEN and the response views. -/
theorem readPort_responseRegisters {s t : State} {a : ReadAddr} (hlo : 0x00C ≤ a.toNat) (hhi : a.toNat ≤ 0x014)
    (hv : t.vsize = s.vsize) (hst : t.rspState = s.rspState) (hrx : t.rx = s.rx) : readPort t a = readPort s a := by
  simp only [readPort, if_pos (show a.toNat < 0x100 by omega)]
  generalize a.toNat = n at hlo hhi
  interval_cases n <;> simp only [State.readRegister, State.rspAddr, State.rspFunc, State.rspCrcLo, State.rspCrcHi,
    State.view, State.explen, State.rxlen, hv, hst, hrx]

/-- The RX and VAL windows and what lies beyond. -/
theorem readPort_responseRegion {s t : State} {a : ReadAddr} (hlo : 0x300 ≤ a.toNat)
    (hv : t.vsize = s.vsize) (hst : t.rspState = s.rspState) (hrx : t.rx = s.rx) : readPort t a = readPort s a := by
  have h1 : ¬ a.toNat < 0x100 := by omega
  have h2 : ¬ a.toNat < 0x200 := by omega
  simp only [readPort, if_neg h1, if_neg h2, if_neg hlo.not_gt, State.val, State.view, hv, hst, hrx]

/-! ### The frames of the commands -/

/-- Settles O26: a command that raises a fault or finds one leaves all these elements; an enabled one has the family's
frame, and each element's writers are known. -/
theorem requestCommandsFrame : Obligations.RequestCommandsFrame := by
  intro i s t hi h
  have hframe := exec_request_frame hi h
  have hv : t.vsize = s.vsize := by rw [hframe]
  have hst : t.rspState = s.rspState := by rw [hframe]
  have hrx : t.rx = s.rx := by rw [hframe]
  have hreads (a : ReadAddr) (ha : (0x00C ≤ a.toNat ∧ a.toNat ≤ 0x014) ∨ 0x300 ≤ a.toNat) :
      readPort t a = readPort s a := by
    rcases ha with ⟨hlo, hhi⟩ | hlo
    · exact readPort_responseRegisters hlo hhi hv hst hrx
    · exact readPort_responseRegion hlo hv hst hrx
  rcases exec_kinds h with rfl | ⟨-, rfl⟩ | ⟨-, -, he⟩
  · exact ⟨hframe, by simp⟩
  · refine ⟨hframe, ?_, ?_, ?_, ?_, ?_, ?_, ?_, ?_, hreads⟩ <;> simp
  · have haddr := he.addr_writers
    have hfunc := he.func_writers
    have hpay := he.payload_writers
    have htx := he.tx_writers
    refine ⟨hframe, ?_, ?_, ?_, ?_, ?_, ?_, ?_, ?_, hreads⟩ <;> clear hframe hreads h he <;> grind [family]

/-- Settles O32, by the family's frame and the one writer of VSIZE. -/
theorem responseCommandsFrame : Obligations.ResponseCommandsFrame := by
  intro i s t hi h
  have hframe := exec_response_frame hi h
  refine ⟨hframe, fun hn => ?_, fun hrx => ?_, fun a hlo hhi =>
    have hp : t.payload = s.payload := by rw [hframe]
    have htx : t.tx = s.tx := by rw [hframe]
    readPort_requestRegion hlo hhi hp htx⟩
  · rcases exec_kinds h with rfl | ⟨-, rfl⟩ | ⟨-, -, he⟩
    · rfl
    · rfl
    · rcases he.vsize_writers with hv | ⟨n, hin, -⟩
      · exact hv
      · exact absurd hin (hn n)
  · rcases exec_kinds h with rfl | ⟨-, rfl⟩ | ⟨-, -, he⟩
    · rfl
    · rfl
    · rcases hrx with rfl | rfl <;> rcases he with ⟨-, rfl⟩ | ⟨-, rfl⟩ <;> rfl

/-- What an answer of the transport can change (R163 to R167). -/
theorem takeAnswer_frame (a : Answer) (s : State) :
    takeAnswer a s =
      { s with rx := (takeAnswer a s).rx, rspState := (takeAnswer a s).rspState, result := (takeAnswer a s).result,
               detail := (takeAnswer a s).detail, fault := (takeAnswer a s).fault,
               faultCode := (takeAnswer a s).faultCode, busy := (takeAnswer a s).busy, pending := none } := by
  rcases s.pending.eq_none_or_eq_some with hp | ⟨n, hp⟩
  · rw [takeAnswer_of_not_pending a hp, ← hp]
    rcases s.raiseFirst_cases .transportUnsolicited with ⟨-, h⟩ | ⟨-, h⟩
    · rw [h]
    · rw [h, State.raiseFault]
  · rcases takeAnswer_cases a hp with ⟨-, h⟩ | ⟨-, -, h⟩ | ⟨bytes, -, -, -, h⟩ | ⟨bytes, -, -, -, -, h⟩
      | ⟨bytes, -, -, -, -, h⟩
    · rw [h]
    · rw [h, State.finish]
    · rw [h, State.raiseFault]
    · rw [h, State.finish, State.delivered]
    · rw [h, State.conclude, State.finish, State.delivered]

/-- Settles O40: the commands by their family's frame and the one writer of TXLOG, the answers by theirs. -/
theorem sessionFrame : Obligations.SessionFrame := by
  refine ⟨fun i s t hi h => ?_, fun a s => ⟨takeAnswer_frame a s, fun r hlo hhi => ?_⟩⟩
  · have hframe := exec_session_frame hi h
    refine ⟨hframe, ?_, ?_, fun a hlo hhi =>
      have hp : t.payload = s.payload := by rw [hframe]
      readPort_payloadRegion hlo hhi hp⟩
    · rintro rfl
      rcases exec_kinds h with rfl | ⟨-, rfl⟩ | ⟨-, -, rfl⟩ <;> exact ⟨rfl, rfl, rfl, rfl, rfl, rfl, rfl⟩
    · rcases exec_kinds h with rfl | ⟨-, rfl⟩ | ⟨-, -, he⟩
      · exact .inl rfl
      · exact .inl rfl
      · rcases he.exchange_writers with ⟨-, -, hlog⟩ | ⟨-, -, -, -, hlog⟩
        · exact .inl hlog
        · exact .inr hlog
  · have hframe := takeAnswer_frame a s
    have hp : (takeAnswer a s).payload = s.payload := by rw [hframe]
    have htx : (takeAnswer a s).tx = s.tx := by rw [hframe]
    exact readPort_requestRegion hlo hhi hp htx

/-! ### Who writes an element in a step -/

/-- Settles O16: of the five things a step can do to the block only a CRC command's effect writes CRC. -/
theorem crcWrittenOnlyByItsFamily : Obligations.CrcWrittenOnlyByItsFamily := by
  intro s t h hr hne
  rcases step_kinds h with hq | ⟨c, -, -, hq⟩ | ⟨i, hs, ts, hrun, -, -, he⟩ | ⟨a, n, ts, -, -, rfl⟩ | ⟨ts, hr', -⟩
  · exact absurd (congrArg State.crc hq) hne
  · exact absurd (congrArg State.crc hq) hne
  · rcases he.crc_writers with hc | ⟨rfl, hc⟩ | ⟨b, rfl, hc⟩
    · exact absurd hc hne
    · exact .inl ⟨hrun, hc⟩
    · exact .inr ⟨b, hrun, hc⟩
  · exact absurd (congrArg State.crc (takeAnswer_frame a _)) hne
  · exact absurd hr' hr

/-- Settles O49, by the writers of TX and VSIZE among the commands; no answer writes them. -/
theorem txAndVsizeHaveOneWriter : Obligations.TxAndVsizeHaveOneWriter := by
  intro s t h hr
  rcases step_kinds h with hq | ⟨c, -, -, hq⟩ | ⟨i, hs, ts, hrun, -, -, he⟩ | ⟨a, n, ts, -, -, rfl⟩ | ⟨ts, hr', -⟩
  · rw [hq]
    simp
  · rw [hq]
    simp
  · constructor
    · intro hne
      rcases he.tx_writers with ⟨htx, hb⟩ | ⟨rfl | rfl, -, htx, hb⟩
      · simp [htx, hb] at hne
      · exact ⟨.inl hrun, hb, htx⟩
      · exact ⟨.inr hrun, hb, htx⟩
    · intro hne
      rcases he.vsize_writers with hv | ⟨n, rfl, hv⟩
      · exact absurd hv hne
      · exact ⟨n, hrun, hv⟩
  · rw [takeAnswer_frame]
    simp
  · exact absurd hr' hr

/-- No answer of the transport makes the block busy. -/
theorem busy_of_takeAnswer_busy {a : Answer} {s : State} {n : Nat} (hp : s.pending = some n)
    (hb : (takeAnswer a s).busy = true) : s.busy = true := by
  rcases takeAnswer_cases a hp with ⟨-, h⟩ | ⟨-, -, h⟩ | ⟨bytes, -, -, -, h⟩ | ⟨bytes, -, -, -, -, h⟩
    | ⟨bytes, -, -, -, -, h⟩ <;> rw [h] at hb
  · exact hb
  · exact absurd hb Bool.false_ne_true
  · exact hb
  · exact absurd hb Bool.false_ne_true
  · exact absurd hb Bool.false_ne_true

/-- Settles O41: TXLOG and BUSY have one writer among the commands, and the transport's answers and resets only clear
BUSY. -/
theorem oneExchangeInFlight : Obligations.OneExchangeInFlight := by
  intro s t h
  rcases step_kinds h with hq | ⟨c, -, -, hq⟩ | ⟨i, hs, ts, hrun, hf, hb, he⟩ | ⟨a, n, ts, -, hp, rfl⟩ | ⟨ts, -, rfl⟩
  · rw [hq]
    exact .inl ⟨rfl, id⟩
  · rw [hq]
    exact .inl ⟨rfl, id⟩
  · rcases he.exchange_writers with ⟨hbusy, -, hlog⟩ | ⟨rfl, hm, hbusy, hpend, hlog⟩
    · exact .inl ⟨hlog, fun hb => hbusy.symm.trans hb⟩
    · obtain ⟨-, -, -, hx⟩ := (State.transactMissing_eq_zero_iff _).mp hm
      exact .inr ⟨hrun, hb.resolve_right nofun, hf, hx, hbusy, hpend, hlog⟩
  · have hlog : (takeAnswer a { s with turns := ts }).txLog = s.txLog := by rw [takeAnswer_frame]
    exact .inl ⟨hlog, busy_of_takeAnswer_busy (s := { s with turns := ts }) hp⟩
  · exact .inl ⟨rfl, fun hb => absurd hb Bool.false_ne_true⟩

/-! ### RESULT and DETAIL -/

/-- A validation ends with one of four codes. -/
theorem State.check_code (s : State) :
    s.check.1 = .dataCorrupted ∨ s.check.1 = .mismatchAddress ∨ s.check.1 = .mismatchFunction ∨ s.check.1 = .ok := by
  rcases s.check_cases with ⟨-, h⟩ | ⟨-, -, h⟩ | ⟨-, -, -, h⟩ | ⟨-, -, -, h⟩ <;> simp [h]

/-- The effect of a command that finishes INVALID_ARGUMENT or INVALID_STATE. -/
theorem Effect.rejected {i : Instr} (hi : family i ≠ .crc) {s t : State} (h : Effect i s t)
    (hres : t.result = .invalidArgument ∨ t.result = .invalidState) : t = s.finish t.result t.detail := by
  cases i <;> simp only [family, ne_eq, not_true_eq_false] at hi
  case rspValidate =>
    rcases h with ⟨-, rfl⟩ | ⟨-, rfl⟩
    · rfl
    · rcases s.check_code with hc | hc | hc | hc <;> simp [hc] at hres
  all_goals grind [Effect, State.finish]

/-- Settles O47, by the effect of an enabled command. -/
theorem rejectedCommandWritesNothingElse : Obligations.RejectedCommandWritesNothingElse := by
  intro i s t hi hf hb h hres
  rcases exec_cases h with ⟨hf', -⟩ | ⟨-, hb', -, -⟩ | ⟨-, -, he⟩
  · simp [hf] at hf'
  · simp [hb] at hb'
  · exact he.rejected hi hres

/-- Settles O48: a fault raised and a CRC command's effect leave RESULT and DETAIL; of the answers those that do not end
the exchange do. -/
theorem resultWrittenOnlyByOutcomes : Obligations.ResultWrittenOnlyByOutcomes := by
  intro s t h hne
  rcases step_kinds h with hq | ⟨c, -, -, hq⟩ | ⟨i, hs, ts, hrun, hf, hb, he⟩ | ⟨a, n, ts, ha, hp, rfl⟩ | ⟨ts, hr, -⟩
  · rw [hq] at hne
    simp at hne
  · rw [hq] at hne
    simp at hne
  · by_cases hi : family i = .crc
    · rw [he.crc_frame hi] at hne
      simp at hne
    · exact .inr (.inl ⟨i, hrun, hi, hf, hb.resolve_right hi⟩)
  · have hp' : s.pending ≠ none := by simp [hp]
    rcases takeAnswer_cases a (s := { s with turns := ts }) hp with ⟨-, hq⟩ | ⟨hf, -, hq⟩ | ⟨bytes, -, -, -, hq⟩
      | ⟨bytes, hf, -, -, -, hq⟩ | ⟨bytes, hf, -, -, -, hq⟩ <;> rw [hq] at hne ⊢
    · simp at hne
    · exact .inr (.inr ⟨a, ha, hf, hp', rfl, hf⟩)
    · simp at hne
    · exact .inr (.inr ⟨a, ha, hf, hp', rfl, hf⟩)
    · exact .inr (.inr ⟨a, ha, hf, hp', rfl, hf⟩)
  · exact .inl hr

/-! ### CRC stands apart (R21) -/

/-- No effect outside the CRC family reads or writes CRC. -/
theorem Effect.with_crc {i : Instr} (hi : family i ≠ .crc) {s t : State} (h : Effect i s t) (c : Word) :
    Effect i { s with crc := c } { t with crc := c } := by
  cases i <;> simp only [Effect] at h
  case crcInit | crcByte => exact absurd rfl hi
  case reqClear | reqPayloadBegin | rspClear | sesRelease => subst h; rfl
  case reqPayloadByte =>
    rcases h with ⟨hp, rfl⟩ | ⟨hp, hl, rfl⟩ | ⟨hp, hl, rfl⟩
    · exact .inl ⟨hp, rfl⟩
    · exact .inr (.inl ⟨hp, hl, rfl⟩)
    · exact .inr (.inr ⟨hp, hl, rfl⟩)
  all_goals
    rcases h with ⟨hc, rfl⟩ | ⟨hc, rfl⟩
    · exact .inl ⟨hc, rfl⟩
    · exact .inr ⟨hc, rfl⟩

theorem exec_with_crc {i : Instr} (hi : family i ≠ .crc) {s t : State} (h : exec i s = .next t) (c : Word) :
    exec i { s with crc := c } = .next { t with crc := c } := by
  rcases exec_cases h with ⟨hf, rfl⟩ | ⟨hf, hb, -, rfl⟩ | ⟨hf, hb, he⟩
  · exact exec_faulted i hf
  · exact exec_busy hi hf hb
  · exact exec_of_effect hf hb (he.with_crc hi c)

theorem takeAnswer_with_crc (a : Answer) (s : State) (c : Word) :
    takeAnswer a { s with crc := c } = { takeAnswer a s with crc := c } := by
  rcases s.pending.eq_none_or_eq_some with hp | ⟨n, hp⟩
  · rw [takeAnswer_of_not_pending a hp, takeAnswer_of_not_pending a (s := { s with crc := c }) hp]
    rcases s.raiseFirst_cases .transportUnsolicited with ⟨hf, h⟩ | ⟨hf, h⟩ <;> rw [h]
    · exact State.raiseFirst_of_fault _ hf
    · exact State.raiseFirst_of_not_fault _ hf
  · rcases takeAnswer_cases a hp with ⟨hf, h⟩ | ⟨hf, rfl, h⟩ | ⟨bytes, hf, rfl, hn, h⟩ | ⟨bytes, hf, rfl, hn, he, h⟩
      | ⟨bytes, hf, rfl, hn, he, h⟩ <;> rw [h]
    · exact takeAnswer_of_fault a hf
    · exact takeNoResponse_of_pending (s := { s with crc := c }) hp hf
    · exact takeDelivery_overrun (s := { s with crc := c }) hp hf hn
    · exact takeDelivery_short (s := { s with crc := c }) hp hf hn he
    · exact takeDelivery_full (s := { s with crc := c }) hp hf hn he

/-- Settles O17, for the commands by their effects and for the answers by their cases. -/
theorem crcIsIndependentOfTheRest : Obligations.CrcIsIndependentOfTheRest :=
  ⟨fun _ _ _ c hi h => exec_with_crc hi h c, takeAnswer_with_crc⟩

/-- An answer within the contract raises no fault (R163, R164). -/
theorem takeAnswer_fault_of_abides {a : Answer} {s : State} (h : answerAbides a s = true) :
    (takeAnswer a s).fault = s.fault := by
  cases hf : s.fault
  · rcases s.pending.eq_none_or_eq_some with hp | ⟨n, hp⟩
    · simp [answerAbides, hp] at h
    · refine Bool.eq_false_iff.mpr fun ht => ?_
      obtain ⟨bytes, rfl, hn, -⟩ := takeAnswer_raises hp hf ht
      obtain rfl : bytes.length = n := by simpa [answerAbides, hp] using h
      exact hn.false
  · rw [takeAnswer_of_fault a hf]
    exact hf

/-- A CRC command on two states that agree but in CRC, to be followed or preceded by an answer. -/
theorem exec_takeAnswer_of_crc {i : Instr} (hi : family i = .crc) {a : Answer} {s : State}
    (hf : (takeAnswer a s).fault = false) (hc : (takeAnswer a s).crc = s.crc) {t : State} (he : Effect i s t) :
    exec i (takeAnswer a s) = .next (takeAnswer a t) := by
  refine exec_of_effect hf (.inr hi) ?_
  cases i <;> simp only [family, reduceCtorEq] at hi
  case crcInit =>
    cases he
    exact takeAnswer_with_crc a s _
  case crcByte b =>
    cases he
    change _ = { takeAnswer a s with crc := crcStep (takeAnswer a s).crc b }
    rw [takeAnswer_with_crc, hc]

/-- Settles O18: an abiding answer keeps FAULT and CRC, and does not read CRC. -/
theorem crcCommandsCommuteWithAnswers : Obligations.CrcCommandsCommuteWithAnswers := by
  intro i a s hi ha
  have hfault := takeAnswer_fault_of_abides ha
  cases hf : s.fault
  · have hc : (takeAnswer a s).crc = s.crc := by rw [takeAnswer_frame]
    obtain ⟨t, ht, he⟩ := exec_enabled (i := i) hf (.inr hi)
    exact ⟨t, ht, exec_takeAnswer_of_crc hi (hfault.trans hf) hc he⟩
  · exact ⟨s, exec_faulted i hf, exec_faulted i (hfault.trans hf)⟩

end Sys2Proof.Machine
end

section
/-! SUPPORT. Proofs about the checksum (spec/40_crc.md R100 to R105): the loop's step is linear and one-to-one, a right
checksum leaves zero, and one changed byte makes it wrong. -/

namespace Sys2Proof.Machine

/-! ### The loop (R100) -/

theorem crcShifts_eq_iterate (k : Nat) (c : Word) : crcShifts k c = crcShift^[k] c := by
  induction k generalizing c with
  | zero => rfl
  | succ k ih => exact ih (crcShift c)

/-- One shift, bit by bit: the polynomial 0xA001 stands where bit 0 was 1. -/
theorem crcShift_getLsbD (c : Word) (k : Nat) :
    (crcShift c).getLsbD k = (c.getLsbD (k + 1) ^^ (c.getLsbD 0 && Config.crcPoly.getLsbD k)) := by
  unfold crcShift
  cases h : c.getLsbD 0 <;> simp [BitVec.getLsbD_xor, Nat.add_comm]

theorem crcShift_xor (c d : Word) : crcShift (c ^^^ d) = crcShift c ^^^ crcShift d := by
  apply BitVec.eq_of_getLsbD_eq
  intro k _
  simp only [crcShift_getLsbD, BitVec.getLsbD_xor, Bool.and_xor_distrib_right, Bool.xor_assoc, Bool.xor_left_comm]

/-- A shift loses nothing: bit 15 of the result is the bit shifted out. -/
theorem crcShift_injective : Function.Injective crcShift := by
  intro c d h
  have hbit (k : Nat) := congrArg (fun w : Word => w.getLsbD k) h
  simp only [crcShift_getLsbD] at hbit
  have h0 : c.getLsbD 0 = d.getLsbD 0 := by
    simpa [BitVec.getLsbD_of_ge, Config.crcPoly] using hbit 15
  apply BitVec.eq_of_getLsbD_eq
  intro k _
  cases k with
  | zero => exact h0
  | succ k =>
    have hk := hbit k
    rw [h0] at hk
    exact Bool.xor_left_inj.mp hk

theorem crcShifts_xor (k : Nat) (c d : Word) : crcShifts k (c ^^^ d) = crcShifts k c ^^^ crcShifts k d := by
  induction k generalizing c d with
  | zero => rfl
  | succ k ih => simp only [crcShifts, crcShift_xor, ih]

theorem crcShifts_injective (k : Nat) : Function.Injective (crcShifts k) := by
  have h : crcShifts k = crcShift^[k] := funext (crcShifts_eq_iterate k)
  rw [h]
  exact crcShift_injective.iterate k

/-! ### The step of one byte (R100) -/

theorem zeroExtend_xor (a b : Byte) : (a ^^^ b).zeroExtend 16 = a.zeroExtend 16 ^^^ b.zeroExtend 16 :=
  BitVec.setWidth_xor

theorem crcStep_xor (c d : Word) (a b : Byte) : crcStep (c ^^^ d) (a ^^^ b) = crcStep c a ^^^ crcStep d b := by
  rw [crcStep, crcStep, crcStep, ← crcShifts_xor, zeroExtend_xor]
  congr 1
  ac_rfl

theorem crcStep_register_injective {c d : Word} {b : Byte} (h : crcStep c b = crcStep d b) : c = d := by
  unfold crcStep at h
  exact (BitVec.xor_left_inj (b.zeroExtend 16)).mp (crcShifts_injective 8 h)

theorem crcStep_byte_injective {c : Word} {a b : Byte} (h : crcStep c a = crcStep c b) : a = b := by
  unfold crcStep at h
  have hz : a.zeroExtend 16 = b.zeroExtend 16 := (BitVec.xor_right_inj c).mp (crcShifts_injective 8 h)
  have ht := congrArg (BitVec.setWidth 8) hz
  simpa using ht

/-- Settles O13: eight shifts are the loop's eight turns, and both properties of the step are those of one shift. -/
theorem crcStepIsLinearAndInjective : Obligations.CrcStepIsLinearAndInjective :=
  ⟨fun _ _ => crcShifts_eq_iterate 8 _, by decide, by decide, crcStep_xor, fun _ _ _ => crcStep_register_injective,
    fun _ _ _ => crcStep_byte_injective⟩

/-! ### A right checksum leaves zero (R105) -/

/-- While the bits shifted out are 0 the polynomial is never added. -/
theorem crcShifts_of_low_zero (k : Nat) (c : Word) (h : ∀ j < k, c.getLsbD j = false) : crcShifts k c = c >>> k := by
  induction k generalizing c with
  | zero => simp [crcShifts]
  | succ k ih =>
    have hc : crcShift c = c >>> 1 := by
      rw [crcShift, h 0 k.succ_pos]
      rfl
    have hlow (j : Nat) (hj : j < k) : (c >>> 1).getLsbD j = false := by
      rw [BitVec.getLsbD_ushiftRight]
      exact h (1 + j) (by omega)
    rw [crcShifts, hc, ih _ hlow, ← BitVec.shiftRight_add, Nat.add_comm]

/-- The register's own low byte cancels, and what is left is the high byte moved down. -/
theorem crcStep_loByte (c : Word) : crcStep c (loByte c) = (hiByte c).zeroExtend 16 := by
  have hlow (j : Nat) (hj : j < 8) : (c ^^^ (loByte c).zeroExtend 16).getLsbD j = false := by
    have : j < 16 := by omega
    simp [loByte, hj, this]
  rw [crcStep, crcShifts_of_low_zero 8 _ hlow]
  apply BitVec.eq_of_getLsbD_eq
  intro j hj
  by_cases hj8 : j < 8
  · simp [loByte, hiByte, hj, hj8]
  · simp [loByte, hiByte, hj8, BitVec.getLsbD_of_ge c (8 + j) (by omega)]

theorem crcStep_zeroExtend (b : Byte) : crcStep (b.zeroExtend 16) b = 0x0000#16 := by
  rw [crcStep, BitVec.xor_self]
  decide

theorem crc16_append_crcBytes (bytes : List Byte) : crc16 (bytes ++ crcBytes bytes) = 0x0000#16 := by
  rw [crc16, crcFrom_append]
  change crcStep (crcStep (crc16 bytes) (loByte (crc16 bytes))) (hiByte (crc16 bytes)) = _
  rw [crcStep_loByte, crcStep_zeroExtend]

/-! ### The checksum by commands (R104) -/

/-- One CRC_BYTE per byte carries the accumulator on over the bytes. -/
theorem runCommands_crcBytes (bytes : List Byte) {s : State} (hf : s.fault = false) :
    runCommands (bytes.map .crcByte) s = .next { s with crc := crcFrom s.crc bytes } := by
  induction bytes generalizing s with
  | nil => rfl
  | cons b bs ih =>
    simp only [List.map_cons, runCommands, exec_crcByte b hf]
    exact ih (s := { s with crc := crcStep s.crc b }) hf

theorem runCommands_macroCrcBytes (bytes : List Byte) {s : State} (hf : s.fault = false) :
    runCommands (macroCrcBytes bytes) s = .next { s with crc := crc16 bytes } := by
  simp only [macroCrcBytes, runCommands, exec_crcInit hf]
  exact runCommands_crcBytes bytes (s := { s with crc := Config.crcInit }) hf

/-- Settles O12, by induction over the bytes. -/
theorem crcStreamComputesChecksum : Obligations.CrcStreamComputesChecksum :=
  fun _ bytes hf => ⟨_, runCommands_macroCrcBytes bytes hf, rfl, rfl⟩

/-- Settles O14: the low byte cancels the register's low half, and the high byte what is left of it. -/
theorem checksummedBytesLeaveZero : Obligations.ChecksummedBytesLeaveZero := by
  refine fun bytes => ⟨crc16_append_crcBytes bytes, fun s hf => ?_⟩
  rw [runCommands_macroCrcBytes _ hf, crc16_append_crcBytes]

/-! ### A right checksum at the end of a frame (R28, R144) -/

theorem checksumGood_append (body : List Byte) : checksumGood (body ++ crcBytes body) := by
  simp [checksumGood]

/-- A built frame has a right checksum (R121). -/
theorem checksumGood_buildFrame (a f : Byte) (p : List Byte) : checksumGood (buildFrame a f p) :=
  checksumGood_append ([a, f] ++ p)

theorem crc16_of_checksumGood {frame : List Byte} (h : checksumGood frame) : crc16 frame = 0x0000#16 := by
  rw [h]
  exact crc16_append_crcBytes _

theorem exists_append_pair {bytes : List Byte} {n : Nat} (h : bytes.length = n + 2) :
    ∃ (body : List Byte) (lo hi : Byte), bytes = body ++ [lo, hi] ∧ body.length = n := by
  obtain ⟨lo, hi, hlast⟩ := List.length_eq_two.mp (show (bytes.drop n).length = 2 by simp [h])
  refine ⟨bytes.take n, lo, hi, ?_, by simp [h]⟩
  rw [← hlast, List.take_append_drop]

/-- The checksum check of a validation on the expected number of bytes (R144). -/
theorem State.sumMatches_iff_checksumGood {s : State} (hlen : s.rx.length = s.explen) :
    s.sumMatches ↔ checksumGood s.rx := by
  obtain ⟨body, lo, hi, hrx, hbody⟩ := exists_append_pair (n := s.vsize.toNat + 2) hlen
  have hn : s.explen - 2 = body.length := by rw [hbody, State.explen, Nat.add_sub_assoc (by decide)]
  have hn1 : s.explen - 1 = body.length + 1 := by rw [hbody, State.explen, Nat.add_sub_assoc (by decide)]
  have hgood : checksumGood (body ++ [lo, hi]) ↔ [lo, hi] = crcBytes body := by simp [checksumGood]
  have hlo : byteAt (body ++ [lo, hi]) body.length = lo := byteAt_append_right body [lo, hi] 0
  have hhi : byteAt (body ++ [lo, hi]) (body.length + 1) = hi := byteAt_append_right body [lo, hi] 1
  rw [State.sumMatches, hn, hn1, hrx, hgood, List.take_left, hlo, hhi]
  simp [byteAt, crcBytes]

/-! ### One changed byte (R105) -/

theorem crcFrom_injective (bytes : List Byte) {c d : Word} (h : crcFrom c bytes = crcFrom d bytes) : c = d := by
  induction bytes generalizing c d with
  | nil => exact h
  | cons b bs ih => exact crcStep_register_injective (ih h)

/-- Two sequences that differ in one byte have different checksums. -/
theorem crc16_ne_of_byte_ne (pre post : List Byte) {a b : Byte} (h : a ≠ b) :
    crc16 (pre ++ a :: post) ≠ crc16 (pre ++ b :: post) := by
  intro heq
  rw [crc16, crc16, crcFrom_append, crcFrom_append] at heq
  exact h (crcStep_byte_injective (crcFrom_injective post heq))

/-- A frame with a right checksum has a wrong one once one byte is changed. -/
theorem not_checksumGood_set {frame : List Byte} (h : checksumGood frame) {i : Nat} (hi : i < frame.length) {b : Byte}
    (hb : b ≠ byteAt frame i) : ¬ checksumGood (frame.set i b) := by
  intro hset
  rw [byteAt_of_lt hi] at hb
  have hframe : frame = frame.take i ++ frame[i] :: frame.drop (i + 1) := by simp
  have hflip : frame.set i b = frame.take i ++ b :: frame.drop (i + 1) :=
    List.set_eq_take_append_cons_drop.trans (if_pos hi)
  refine crc16_ne_of_byte_ne (frame.take i) (frame.drop (i + 1)) hb ?_
  rw [← hflip, ← hframe, crc16_of_checksumGood hset, crc16_of_checksumGood h]

theorem xor_bit_ne (b : Byte) {k : Nat} (hk : k < 8) : b ^^^ (0x01#8 <<< k) ≠ b := by
  intro h
  have hk0 := congrArg (fun w : Byte => w.getLsbD k) h
  simp [hk] at hk0

/-- Settles O15: a flipped bit is a changed byte, and a wrong checksum is found before anything else. -/
theorem singleBitFlipIsDataCorrupted : Obligations.SingleBitFlipIsDataCorrupted := by
  intro s body flipped i k hbody hi hk hflip hf
  have hlen : (body ++ crcBytes body).length = s.explen := by simp [hbody, State.explen]
  have hflen : flipped.length = s.explen := by rw [hflip, List.length_set, hlen]
  have hbad : ¬ checksumGood flipped := by
    rw [hflip]
    exact not_checksumGood_set (checksumGood_append body) (by simpa using hi) (xor_bit_ne _ hk)
  refine ⟨fun hb hbuilt hparsed hrx => ?_, fun hp => ?_⟩
  · have hsum : ¬ s.sumMatches := by rwa [State.sumMatches_iff_checksumGood (hrx ▸ hflen), hrx]
    exact exec_rspValidate_of_check hf hb hbuilt hparsed (State.check_of_not_sumMatches hsum)
  · have hsum : ¬ (s.delivered flipped).sumMatches := by rwa [State.sumMatches_iff_checksumGood hflen]
    exact (takeDelivery_full hp hf hflen.le hflen.ge).trans
      (State.conclude_of_check (State.check_of_not_sumMatches hsum))

end Sys2Proof.Machine
end

section
/-! SUPPORT. Proofs about the invariants (spec/10_state.md; 60_exceptions.md R201): every effect, every answer and every
step keeps them. -/

namespace Sys2Proof.Machine

/-! ### A validation's end -/

/-- A response found valid has passed all three checks (R144, R145). -/
theorem State.checks_of_conclude_valid {s : State} (h : s.conclude.rspState = .valid) :
    s.sumMatches ∧ byteAt s.rx 0 = byteAt s.tx 0 ∧ byteAt s.rx 1 = byteAt s.tx 1 ∧ s.check = (.ok, 0x00#8) := by
  rw [State.conclude_rspState] at h
  rcases s.check_cases with ⟨-, hc⟩ | ⟨-, -, hc⟩ | ⟨-, -, -, hc⟩ | hok
  · simp [hc] at h
  · simp [hc] at h
  · simp [hc] at h
  · exact hok

/-- What a valid response shows, the request being built and RX holding the expected number of bytes. -/
theorem State.conclude_valid {s : State} (hlen : s.rx.length = s.explen) (hbuilt : s.reqBuilt = true)
    (h : s.conclude.rspState = .valid) :
    s.conclude.rx.length = s.conclude.vsize.toNat + 4 ∧ checksumGood s.conclude.rx
      ∧ s.conclude.rx[0]? = some (byteAt s.conclude.tx 0) ∧ s.conclude.rx[1]? = some (byteAt s.conclude.tx 1)
      ∧ s.conclude.reqBuilt = true ∧ s.conclude.result = .ok := by
  obtain ⟨hsum, haddr, hfunc, hc⟩ := State.checks_of_conclude_valid h
  have h4 : 4 ≤ s.rx.length := hlen ▸ Nat.le_add_left 4 _
  refine ⟨hlen, (State.sumMatches_iff_checksumGood hlen).mp hsum, ?_, ?_, hbuilt, congrArg Prod.fst hc⟩
  · rw [State.conclude_tx, State.conclude_rx, ← haddr, some_byteAt (by omega)]
  · rw [State.conclude_tx, State.conclude_rx, ← hfunc, some_byteAt (by omega)]

/-! ### A built request (R28) -/

theorem requestFrame_buildFrame {a f : Byte} {p : List Byte} (ha : addrValid a = true) (hf : funcValid f = true)
    (hp : p.length ≤ Config.maxPay) : requestFrame (buildFrame a f p) := by
  refine ⟨?_, ?_, ha, hf, checksumGood_buildFrame a f p⟩ <;> rw [buildFrame_length]
  · exact Nat.le_add_left 4 _
  · exact Nat.add_le_add_right hp 4

/-- The frame of a complete builder (R28, R121). -/
theorem State.BuilderInv.requestFrame {s : State} (h : s.BuilderInv)
    (hset : s.addrSet = true ∧ s.funcSet = true ∧ s.paySet = true) : requestFrame s.builderFrame := by
  obtain ⟨haddr, -, hfunc, -, hplen, -⟩ := h
  exact requestFrame_buildFrame haddr (hfunc hset.2.1) hplen

/-! ### The invariant's groups under the effect of a command -/

section
variable {i : Instr} {s t : State} (he : Effect i s t)
include he

theorem Effect.fault_eq : t.fault = s.fault ∧ t.faultCode = s.faultCode := by
  cases hfam : family i with
  | crc => rw [he.crc_frame hfam]; exact ⟨rfl, rfl⟩
  | request => rw [he.request_frame hfam]; exact ⟨rfl, rfl⟩
  | response => rw [he.response_frame hfam]; exact ⟨rfl, rfl⟩
  | session => rw [he.session_frame hfam]; exact ⟨rfl, rfl⟩

theorem Effect.builderInv (h : s.BuilderInv) : t.BuilderInv := by
  cases hfam : family i with
  | crc => rw [he.crc_frame hfam]; exact h
  | response => rw [he.response_frame hfam]; exact h
  | session => rw [he.session_frame hfam]; exact h
  | request =>
    obtain ⟨haddr, haddr0, hfunc, hfunc0, hplen, hpay⟩ := h
    cases i <;> simp only [family, reduceCtorEq] at hfam
    case reqClear => cases he; exact ⟨rfl, fun _ => rfl, nofun, fun _ => rfl, Nat.zero_le _, fun _ => rfl⟩
    case reqAddr a =>
      rcases he with ⟨ha, rfl⟩ | ⟨-, rfl⟩
      · exact ⟨ha, nofun, hfunc, hfunc0, hplen, hpay⟩
      · exact ⟨haddr, haddr0, hfunc, hfunc0, hplen, hpay⟩
    case reqFunc f =>
      rcases he with ⟨hf, rfl⟩ | ⟨-, rfl⟩
      · exact ⟨haddr, haddr0, fun _ => hf, nofun, hplen, hpay⟩
      · exact ⟨haddr, haddr0, hfunc, hfunc0, hplen, hpay⟩
    case reqPayloadBegin => cases he; exact ⟨haddr, haddr0, hfunc, hfunc0, Nat.zero_le _, nofun⟩
    case reqPayloadByte b =>
      rcases he with ⟨-, rfl⟩ | ⟨-, -, rfl⟩ | ⟨hset, hroom, rfl⟩
      · exact ⟨haddr, haddr0, hfunc, hfunc0, hplen, hpay⟩
      · exact ⟨haddr, haddr0, hfunc, hfunc0, hplen, hpay⟩
      · refine ⟨haddr, haddr0, hfunc, hfunc0, ?_, fun hunset => ?_⟩
        · rw [State.plen, List.length_append]
          exact Nat.lt_of_le_of_ne hplen hroom
        · exact absurd (hset.symm.trans hunset) (by decide)
    case reqBuild =>
      rcases he with ⟨-, rfl⟩ | ⟨-, rfl⟩ <;> exact ⟨haddr, haddr0, hfunc, hfunc0, hplen, hpay⟩

/-- A stored frame stays or is a new one of a complete builder. -/
theorem Effect.frameInv (hb : s.BuilderInv) (h : s.FrameInv) : t.FrameInv := by
  rcases he.tx_writers with ⟨htx, hbuilt⟩ | ⟨-, hset, htx, hbuilt⟩ <;> rw [State.FrameInv, htx, hbuilt]
  · exact h
  · exact ⟨by simp [State.builderFrame, buildFrame], fun _ => hb.requestFrame hset⟩

end

/-- The end of a validation keeps the response group. -/
theorem State.conclude_responseInv {s : State} (hv : sizeValid s.vsize = true) (hlen : s.rx.length = s.explen)
    (hbuilt : s.reqBuilt = true) : s.conclude.ResponseInv := by
  refine ⟨hv, hlen.le, fun _ => hlen, fun hvalid => ?_⟩
  obtain ⟨-, hgood, -⟩ := State.conclude_valid hlen hbuilt hvalid
  exact ⟨hgood, hbuilt⟩

theorem State.validateMissing_zero {s : State} (hr : s.ResponseInv) (hm : s.validateMissing = 0x00#8) :
    s.rx.length = s.explen ∧ s.reqBuilt = true := by
  obtain ⟨hbuilt, hparsed⟩ := s.validateMissing_eq_zero_iff.mp hm
  obtain ⟨-, -, hfull, -⟩ := hr
  exact ⟨hfull (by simp [hparsed]), hbuilt⟩

section
variable {i : Instr} {s t : State} (he : Effect i s t)
include he

theorem Effect.responseInv (h : s.ResponseInv) : t.ResponseInv := by
  obtain ⟨hv, hlen, hfull, hvalid⟩ := id h
  cases hfam : family i with
  | crc => rw [he.crc_frame hfam]; exact h
  | request =>
    have hframe := he.request_frame hfam
    have hbuilt : s.reqBuilt = true → t.reqBuilt = true := by
      rcases he.tx_writers with ⟨-, hb⟩ | ⟨-, -, -, hb⟩ <;> simp [hb]
    rw [hframe]
    exact ⟨hv, hlen, hfull, fun hst => ⟨(hvalid hst).1, hbuilt (hvalid hst).2⟩⟩
  | session =>
    cases i <;> simp only [family, reduceCtorEq] at hfam
    case sesTransact =>
      rcases he with ⟨-, rfl⟩ | ⟨-, rfl⟩
      · exact h
      · exact ⟨hv, Nat.zero_le _, fun hne => absurd rfl hne, nofun⟩
    case sesRelease => cases he; exact h
  | response =>
    cases i <;> simp only [family, reduceCtorEq] at hfam
    case rspSetsize n =>
      rcases he with ⟨hn, rfl⟩ | ⟨-, rfl⟩
      · exact ⟨hn, Nat.zero_le _, fun hne => absurd rfl hne, nofun⟩
      · exact h
    case rspClear => cases he; exact ⟨hv, Nat.zero_le _, fun hne => absurd rfl hne, nofun⟩
    case rspByte b =>
      rcases he with ⟨-, rfl⟩ | ⟨hroom, rfl⟩
      · exact h
      · refine ⟨hv, ?_, fun hne => absurd rfl hne, nofun⟩
        rw [State.rxlen, List.length_append]
        exact Nat.lt_of_le_of_ne hlen hroom
    case rspParse =>
      rcases he with ⟨-, rfl⟩ | ⟨hge, rfl⟩
      · exact ⟨hv, hlen, fun hne => absurd rfl hne, nofun⟩
      · exact ⟨hv, hlen, fun _ => le_antisymm hlen hge, nofun⟩
    case rspValidate =>
      rcases he with ⟨-, rfl⟩ | ⟨hm, rfl⟩
      · exact h
      · obtain ⟨hrx, hbuilt⟩ := State.validateMissing_zero h hm
        exact State.conclude_responseInv hv hrx hbuilt

end

/-! ### The exchange and the record of frames -/

/-- An idle block with nothing pending. -/
theorem State.exchangeInv_of_idle {s : State} (hb : s.busy = false) (hp : s.pending = none) : s.ExchangeInv := by
  simp [State.ExchangeInv, hb, hp]

theorem State.ExchangeInv.pending_of_idle {s : State} (h : s.ExchangeInv) (hb : s.busy = false) : s.pending = none := by
  obtain ⟨-, -, hpend⟩ := h
  by_contra hp
  obtain ⟨hbusy, -⟩ := hpend hp
  exact absurd (hb.symm.trans hbusy) Bool.false_ne_true

section
variable {i : Instr} {s t : State} (he : Effect i s t)
include he

theorem Effect.exchangeInv (hb : s.busy = false ∨ family i = .crc) (h : s.ExchangeInv) : t.ExchangeInv := by
  by_cases hi : family i = .crc
  · rw [he.crc_frame hi]
    exact h
  have hidle := hb.resolve_right hi
  rcases he.exchange_writers with ⟨hbusy, hpend, -⟩ | ⟨rfl, hm, -⟩
  · exact State.exchangeInv_of_idle (hbusy.trans hidle) (hpend.trans (h.pending_of_idle hidle))
  · obtain ⟨-, -, -, hx⟩ := s.transactMissing_eq_zero_iff.mp hm
    rcases he with ⟨hm', -⟩ | ⟨-, rfl⟩
    · exact absurd hm hm'
    · exact ⟨fun _ => ⟨rfl, rfl, rfl, rfl, rfl, hx, by simp [State.explen]⟩, fun _ _ => rfl, fun _ => ⟨rfl, rfl⟩⟩

/-- The frame appended to TXLOG is the built request then in TX. -/
theorem Effect.logInv (hr : s.ResponseInv) (ht : t.FrameInv) (h : s.LogInv) : t.LogInv := by
  rcases he.exchange_writers with ⟨-, -, hlog⟩ | ⟨rfl, hm, -, -, hlog⟩ <;> rw [State.LogInv, hlog]
  · exact h
  · have hbuilt : t.reqBuilt = true := by
      rcases he with ⟨hm', -⟩ | ⟨-, rfl⟩
      · exact absurd hm hm'
      · rfl
    obtain ⟨hv, -⟩ := hr
    have hsize := (sizeValid_iff s.vsize).mp hv
    intro e hmem
    rcases List.mem_append.mp hmem with hold | hnew
    · exact h e hold
    · obtain rfl := List.mem_singleton.mp hnew
      exact ⟨ht.2 hbuilt, Nat.le_add_left 4 _, Nat.add_le_add_right hsize 4⟩

/-- An enabled command keeps the invariant of the whole state. -/
theorem Effect.inv (hb : s.busy = false ∨ family i = .crc) (h : s.Inv) : t.Inv := by
  obtain ⟨hfault, hcode⟩ := he.fault_eq
  have hframe := he.frameInv h.builder h.frame
  exact ⟨he.builderInv h.builder, he.responseInv h.response, hframe, he.exchangeInv hb h.exchange,
    by rw [State.FaultInv, hfault, hcode]; exact h.faults, he.logInv h.response hframe h.log⟩

end

/-! ### The invariant under an answer, a fault and a reset -/

/-- The invariant says nothing about the model's own two lists. -/
theorem State.Inv.with_lists {s : State} (h : s.Inv) (hs : List HostAction) (ts : List Turn) :
    { s with host := hs, turns := ts }.Inv :=
  ⟨h.builder, h.response, h.frame, h.exchange, h.faults, h.log⟩

/-- Raising a fault, with a pending request kept or dropped. -/
theorem State.Inv.raiseFault {s : State} (h : s.Inv) {c : FaultCode} (hc : c ≠ .none) {p : Option Nat}
    (hp : p = s.pending ∨ p = none) : { s with pending := p, fault := true, faultCode := c }.Inv := by
  obtain ⟨hbusy, -, hpend⟩ := h.exchange
  refine ⟨h.builder, h.response, h.frame, ⟨hbusy, nofun, ?_⟩, ⟨fun _ => hc, fun _ => rfl⟩, h.log⟩
  rcases hp with rfl | rfl
  · exact hpend
  · exact fun hne => absurd rfl hne

/-- What the exchange group says of a pending request. -/
theorem State.ExchangeInv.of_pending {s : State} (h : s.ExchangeInv) {n : Nat} (hp : s.pending = some n) :
    n = s.explen ∧ s.reqBuilt = true ∧ s.rspState = .none := by
  obtain ⟨hbusy, -, hpend⟩ := h
  obtain ⟨hb, hn⟩ := hpend (by simp [hp])
  obtain ⟨hbuilt, -, hst, -⟩ := hbusy hb
  exact ⟨Option.some.inj (hp.symm.trans hn), hbuilt, hst⟩

theorem takeAnswer_inv (a : Answer) {s : State} (h : s.Inv) {n : Nat} (hp : s.pending = some n) :
    (takeAnswer a s).Inv := by
  obtain ⟨hn, hbuilt, -⟩ := h.exchange.of_pending hp
  obtain ⟨hv, hlen, -, -⟩ := h.response
  have hidle {t : State} (hb : t.busy = false) (hpend : t.pending = none) := State.exchangeInv_of_idle hb hpend
  rcases takeAnswer_cases a hp with ⟨hf, ht⟩ | ⟨hf, -, ht⟩ | ⟨bytes, hf, -, -, ht⟩ | ⟨bytes, hf, -, hle, -, ht⟩
    | ⟨bytes, hf, -, hle, hge, ht⟩ <;> rw [ht]
  · obtain ⟨hbusy, -, -⟩ := h.exchange
    exact ⟨h.builder, h.response, h.frame, ⟨hbusy, fun _ hf' => by simp [hf] at hf', fun hne => absurd rfl hne⟩,
      h.faults, h.log⟩
  · exact ⟨h.builder, h.response, h.frame, hidle rfl rfl, h.faults, h.log⟩
  · exact h.raiseFault (by decide) (.inr rfl)
  · exact ⟨h.builder, ⟨hv, hn ▸ hle, fun hne => absurd rfl hne, nofun⟩, h.frame, hidle rfl rfl, h.faults, h.log⟩
  · have hfull : bytes.length = s.explen := le_antisymm (hn ▸ hle) hge
    exact ⟨h.builder, State.conclude_responseInv (s := s.delivered bytes) hv hfull hbuilt, h.frame, hidle rfl rfl,
      h.faults, h.log⟩

theorem State.reset_inv : State.reset.Inv :=
  ⟨by decide, by decide, by decide, by decide, by decide, by decide⟩

/-- A reset keeps TXLOG, and every other element has its value at power-on. -/
theorem State.resetBlock_inv {s : State} (h : s.LogInv) : s.resetBlock.Inv :=
  ⟨State.reset_inv.builder, State.reset_inv.response, State.reset_inv.frame,
    State.exchangeInv_of_idle rfl rfl, State.reset_inv.faults, h⟩

/-- Settles O45: each of the five things a step can do to the block keeps every group of the invariant. -/
theorem everyStepKeepsInvariant : Obligations.EveryStepKeepsInvariant := by
  intro s t h hstep
  rcases step_kinds hstep with hq | ⟨c, hc, -, hq⟩ | ⟨i, hs, ts, -, -, hb, he⟩ | ⟨a, n, ts, -, hp, rfl⟩ | ⟨ts, -, rfl⟩
  · rw [hq]
    exact h.with_lists _ _
  · rw [hq]
    exact (h.raiseFault hc (.inl rfl)).with_lists _ _
  · exact he.inv hb (h.with_lists hs ts)
  · exact takeAnswer_inv a (h.with_lists s.host ts) hp
  · exact State.resetBlock_inv (s := { s with turns := ts }) h.log

/-! ### The rule of DETAIL (60_exceptions.md R201) -/

theorem State.detailInv_of_no_error {s : State} (hr : s.result = .none ∨ s.result = .ok) (hd : s.detail = 0x00#8) :
    s.DetailInv := by
  rcases hr with hr | hr <;> simp [State.DetailInv, hr, hd]

theorem State.finish_invalidArgument_detailInv (s : State) (b : Byte) :
    (s.finish .invalidArgument b).DetailInv := by
  simp [State.DetailInv]

theorem State.finish_invalidState_detailInv (s : State) {m : Byte} (hm : m ≠ 0x00#8) (hmask : m &&& 0x88#8 = 0x00#8) :
    (s.finish .invalidState m).DetailInv := by
  simp [State.DetailInv, hm, hmask]

theorem State.missing_mask (s : State) : s.missing &&& 0x88#8 = 0x00#8 := by
  unfold State.missing
  cases s.addrSet <;> cases s.funcSet <;> cases s.paySet <;> decide

theorem State.validateMissing_mask (s : State) : s.validateMissing &&& 0x88#8 = 0x00#8 := by
  unfold State.validateMissing
  cases s.reqBuilt <;> cases s.rspState <;> decide

theorem State.transactMissing_mask (s : State) : s.transactMissing &&& 0x88#8 = 0x00#8 := by
  have hx : (if s.xport then 0x00#8 else 0x40#8) &&& 0x88#8 = 0x00#8 := by cases s.xport <;> decide
  rw [State.transactMissing, BitVec.and_comm, BitVec.and_or_distrib_left, BitVec.and_comm, s.missing_mask,
    BitVec.and_comm, hx]
  rfl

/-- Each outcome of a validation has its DETAIL, and only a valid response is kept. -/
theorem State.conclude_detailInv (s : State) : s.conclude.DetailInv := by
  rcases s.check_cases with ⟨-, hc⟩ | ⟨-, -, hc⟩ | ⟨-, -, -, hc⟩ | ⟨-, -, -, hc⟩ <;> simp [State.DetailInv, hc]

theorem Effect.detailInv {i : Instr} {s t : State} (he : Effect i s t) (h : s.DetailInv) : t.DetailInv := by
  by_cases hi : family i = .crc
  · rw [he.crc_frame hi]
    exact h
  cases i <;> simp only [family, not_true_eq_false] at hi
  case reqClear | reqPayloadBegin | rspClear | sesRelease =>
    cases he
    exact State.detailInv_of_no_error (.inr rfl) rfl
  case reqAddr | reqFunc | rspSetsize =>
    rcases he with ⟨-, rfl⟩ | ⟨-, rfl⟩
    · exact State.detailInv_of_no_error (.inr rfl) rfl
    · exact State.finish_invalidArgument_detailInv s _
  case reqPayloadByte b =>
    rcases he with ⟨-, rfl⟩ | ⟨-, -, rfl⟩ | ⟨-, -, rfl⟩
    · exact State.finish_invalidState_detailInv s (by decide) (by decide)
    · exact State.finish_invalidArgument_detailInv s b
    · exact State.detailInv_of_no_error (.inr rfl) rfl
  case reqBuild =>
    rcases he with ⟨hm, rfl⟩ | ⟨-, rfl⟩
    · exact State.finish_invalidState_detailInv s hm s.missing_mask
    · exact State.detailInv_of_no_error (.inr rfl) rfl
  case rspByte b =>
    rcases he with ⟨-, rfl⟩ | ⟨-, rfl⟩
    · exact State.finish_invalidArgument_detailInv s b
    · exact State.detailInv_of_no_error (.inr rfl) rfl
  case rspParse =>
    rcases he with ⟨hlt, rfl⟩ | ⟨-, rfl⟩
    · exact ⟨by simp, nofun, fun _ => ⟨rfl, hlt⟩, nofun, nofun, fun _ => rfl⟩
    · exact State.detailInv_of_no_error (.inr rfl) rfl
  case rspValidate =>
    rcases he with ⟨hm, rfl⟩ | ⟨-, rfl⟩
    · exact State.finish_invalidState_detailInv s hm s.validateMissing_mask
    · exact s.conclude_detailInv
  case sesTransact =>
    rcases he with ⟨hm, rfl⟩ | ⟨-, rfl⟩
    · exact State.finish_invalidState_detailInv s hm s.transactMissing_mask
    · exact State.detailInv_of_no_error (.inl rfl) rfl

theorem takeAnswer_detailInv (a : Answer) {s : State} (hx : s.ExchangeInv) (h : s.DetailInv) {n : Nat}
    (hp : s.pending = some n) : (takeAnswer a s).DetailInv := by
  obtain ⟨-, -, hst⟩ := hx.of_pending hp
  rcases takeAnswer_cases a hp with ⟨-, ht⟩ | ⟨-, -, ht⟩ | ⟨bytes, -, -, -, ht⟩ | ⟨bytes, -, -, -, hlt, ht⟩
    | ⟨bytes, -, -, -, -, ht⟩ <;> rw [ht]
  · exact h
  · exact ⟨fun _ => rfl, nofun, nofun, nofun, nofun, fun _ => hst⟩
  · exact h
  · exact ⟨by simp, nofun, fun _ => ⟨rfl, hlt⟩, nofun, nofun, fun _ => rfl⟩
  · exact State.conclude_detailInv _

/-- Settles O46, as O45: the exchange group says that no response is kept while an answer is awaited. -/
theorem everyStepKeepsDetailRule : Obligations.EveryStepKeepsDetailRule := by
  intro s t hinv h hstep
  rcases step_kinds hstep with hq | ⟨c, -, -, hq⟩ | ⟨i, hs, ts, -, -, -, he⟩ | ⟨a, n, ts, -, hp, rfl⟩ | ⟨ts, -, rfl⟩
  · rw [hq]
    exact h
  · rw [hq]
    exact h
  · exact he.detailInv h
  · exact takeAnswer_detailInv a (s := { s with turns := ts }) hinv.exchange h hp
  · exact State.detailInv_of_no_error (.inl rfl) rfl

/-- Settles O44, by evaluating the groups at power-on. -/
theorem resetMeetsTheInvariants : Obligations.ResetMeetsTheInvariants :=
  ⟨State.reset_inv, by decide⟩

/-! ### Valid only after all checks -/

/-- Of the commands only RSP_VALIDATE makes a response valid. -/
theorem Effect.becomes_valid {i : Instr} {s t : State} (he : Effect i s t) (ht : t.rspState = .valid)
    (hs : s.rspState ≠ .valid) : s.validateMissing = 0x00#8 ∧ t = s.conclude := by
  cases i <;> grind [Effect, State.finish]

/-- Settles O33: a response becomes valid at the end of a validation only, whose bytes are the expected number. -/
theorem validOnlyAfterAllChecks : Obligations.ValidOnlyAfterAllChecks := by
  intro s t hr hx hstep hvalid hs
  rcases step_kinds hstep with hq | ⟨c, -, -, hq⟩ | ⟨i, hs', ts, -, -, -, he⟩ | ⟨a, n, ts, -, hp, rfl⟩ | ⟨ts, -, rfl⟩
  · rw [hq] at hvalid
    exact absurd hvalid hs
  · rw [hq] at hvalid
    exact absurd hvalid hs
  · obtain ⟨hm, rfl⟩ := he.becomes_valid hvalid hs
    obtain ⟨hlen, hbuilt⟩ := State.validateMissing_zero (s := { s with host := hs', turns := ts }) hr hm
    exact State.conclude_valid hlen hbuilt hvalid
  · obtain ⟨hn, hbuilt, -⟩ := hx.of_pending hp
    rcases takeAnswer_cases a (s := { s with turns := ts }) hp with ⟨-, ht⟩ | ⟨-, -, ht⟩ | ⟨bytes, -, -, -, ht⟩
      | ⟨bytes, -, -, -, -, ht⟩ | ⟨bytes, -, -, hle, hge, ht⟩ <;> rw [ht] at hvalid ⊢
    · exact absurd hvalid hs
    · exact absurd hvalid hs
    · exact absurd hvalid hs
    · exact absurd hvalid nofun
    · exact State.conclude_valid (le_antisymm (hn ▸ hle) hge) hbuilt hvalid
  · exact absurd hvalid nofun

end Sys2Proof.Machine
end

section
/-! SUPPORT. Proofs about the register part of the read map (spec/20_memory.md R52) and the call's return value read
through it (43_session.md R161). -/

namespace Sys2Proof.Machine

/-! ### Bits, halves and codes -/

/-- The bits of FLAGS (R23). -/
theorem State.flags_getLsbD (s : State) (k : Nat) :
    s.flags.getLsbD k = if k = 0 then s.addrSet else if k = 1 then s.funcSet else if k = 2 then s.paySet else false := by
  simp only [State.flags, BitVec.getLsbD_append, BitVec.getLsbD_ofBool]
  match k with
  | 0 | 1 | 2 => simp
  | k + 3 => simp

/-- A 16-bit value is its two halves (R58). -/
theorem hiByte_append_loByte (v : Word) : hiByte v ++ loByte v = v :=
  append_fields v

/-- A length that fits two bytes, from its two halves (R27, R52). -/
theorem lenWord_halves {n : Nat} (h : n ≤ 65535) :
    (loByte (lenWord n)).toNat + 256 * (hiByte (lenWord n)).toNat = n := by
  have hlo : (loByte (lenWord n)).toNat = (lenWord n).toNat % 256 := immField_toNat _
  have hhi : (hiByte (lenWord n)).toNat = (lenWord n).toNat / 256 := opField_toNat _
  have hn : (lenWord n).toNat = n := Nat.mod_eq_of_lt (by omega)
  rw [hlo, hhi, hn]
  exact Nat.mod_add_div n 256

theorem lenByte_toNat {n : Nat} (h : n ≤ 255) : (lenByte n).toNat = n :=
  Nat.mod_eq_of_lt (by omega)

theorem State.explen_le (s : State) : s.explen ≤ 65535 := by
  have := s.vsize.isLt
  rw [State.explen]
  omega

/-- The codes of R200. -/
theorem ResultCode.code_injective : Function.Injective ResultCode.code := by
  intro a b h
  cases a <;> cases b <;> simp_all [ResultCode.code]

/-! ### The registers (R52) -/

theorem readPort_result (s : State) : readPort s 0x001#12 = s.result.code := rfl

theorem readPort_faultCode (s : State) : readPort s 0x004#12 = s.faultCode.code := rfl

/-- Settles O50, register by register: each address reads its element, and its bits or halves are known. -/
theorem readMapRegisters : Obligations.ReadMapRegisters := by
  refine ⟨fun s => ⟨s.status_getLsbD, ?_, rfl, s.flags_getLsbD, ?_, hiByte_append_loByte s.crc, rfl, rfl,
    lenByte_toNat, lenWord_halves, rfl, lenWord_halves s.explen_le, lenWord_halves⟩, by decide, fun i => ?_⟩
  · rw [readPort_result]
    cases s.result <;> rfl
  · rw [readPort_faultCode]
    cases s.faultCode <;> rfl
  · exact ⟨windowAddr_toNat 0x1#4 i, windowAddr_toNat 0x2#4 i, windowAddr_toNat 0x3#4 i, windowAddr_toNat 0x4#4 i⟩

/-! ### The call's return value (R161) -/

/-- The VAL window by its addresses as numbers. -/
theorem readPort_val (s : State) {i : Nat} (hi : i < 256) : readPort s (BitVec.ofNat 12 (0x400 + i)) = s.val i := by
  have hb : (BitVec.ofNat 8 i).toNat = i := Nat.mod_eq_of_lt hi
  have ha : BitVec.ofNat 12 (0x400 + i) = 0x4#4 ++ BitVec.ofNat 8 i := by
    apply BitVec.eq_of_toNat_eq
    rw [windowAddr_toNat, hb, BitVec.toNat_ofNat, Nat.mod_eq_of_lt (by omega)]
    rfl
  rw [ha, readPort_valWindow, hb]

/-- The value is what the first VSIZE addresses of the VAL window read. -/
theorem State.valBytes_eq_reads (s : State) :
    s.valBytes = (List.range s.vsize.toNat).map fun i => readPort s (BitVec.ofNat 12 (0x400 + i)) := by
  refine List.map_congr_left fun i hi => ?_
  have hlt := List.mem_range.mp hi
  have hv := s.vsize.isLt
  exact (readPort_val s (by omega)).symm

/-- Settles O59: with neither BUSY nor FAULT the code read at RESULT picks the line of R161's table. -/
theorem callReturnIsReadFromThePort : Obligations.CallReturnIsReadFromThePort := by
  refine fun s => ⟨fun h => ?_, fun hb hf => ?_⟩
  · rcases h with h | h <;> simp [State.callReturn, h]
  · have hres {r : ResultCode} (h : s.result.code = r.code) : s.result = r := ResultCode.code_injective h
    simp only [readPort_result, State.callReturn, hb, hf, Bool.or_self, Bool.false_eq_true, if_false]
    refine ⟨fun h => ?_, fun h => ?_, fun h => ?_, fun h => ?_, fun h => ?_, fun h => ?_⟩
    · rw [hres (r := .ok) h, s.valBytes_eq_reads]
      rfl
    · rw [hres (r := .noResponse) h]
    · rw [hres (r := .invalidState) h]
    · rw [hres (r := .malformedResponse) h]
    · rw [hres (r := .dataCorrupted) h]
    · rcases h with h | h
      · rw [hres (r := .mismatchAddress) h]
        rfl
      · rw [hres (r := .mismatchFunction) h]
        rfl

end Sys2Proof.Machine
end

section
/-! SUPPORT. Proofs about whole exchanges (spec/30_encoding.md R77, 43_session.md): sending, the answer taken from the
transport, and the same bytes fed by the host. -/

namespace Sys2Proof.Machine

/-! ### Running commands one by one -/

theorem runCommands_cons {i : Instr} {s t : State} (h : exec i s = .next t) (is : List Instr) :
    runCommands (i :: is) s = runCommands is t := by
  simp only [runCommands, h]

/-- An enabled command of any family but CRC, run first. -/
theorem runCommands_cons_of_effect {i : Instr} {is : List Instr} {s t : State} {o : Host.Outcome State Fault Refusal}
    (hf : s.fault = false) (hb : s.busy = false) (he : Effect i s t) (hrest : runCommands is t = o) :
    runCommands (i :: is) s = o :=
  (runCommands_cons (exec_of_effect hf (.inl hb) he) is).trans hrest

/-- The last command's RESULT and DETAIL, where it succeeded. -/
abbrev State.lastOk (s : State) : Prop := s.result = .ok ∧ s.detail = 0x00#8

/-- REQ_PAYLOAD_BYTE for each of some bytes that fit appends them all (R126). -/
theorem runCommands_reqPayloadBytes (p : List Byte) {s : State} (hf : s.fault = false) (hb : s.busy = false)
    (hset : s.paySet = true) (hok : s.lastOk) (hfit : s.payload.length + p.length ≤ Config.maxPay) :
    runCommands (p.map .reqPayloadByte) s = .next { s with payload := s.payload ++ p } := by
  induction p generalizing s with
  | nil => simp [runCommands]
  | cons b bs ih =>
    rw [List.length_cons] at hfit
    have hroom : s.plen ≠ Config.maxPay := by
      rw [State.plen]
      omega
    have he : Effect (.reqPayloadByte b) s { s with payload := s.payload ++ [b] } :=
      .inr (.inr ⟨hset, hroom, by rw [← hok.1, ← hok.2]⟩)
    have hrest := ih (s := { s with payload := s.payload ++ [b] }) hf hb hset hok
      (by simp only [List.length_append, List.length_singleton]; omega)
    exact (runCommands_cons_of_effect hf hb he hrest).trans (by simp)

/-- RSP_BYTE for each of some bytes that fit appends them all, while no response is parsed (R142). -/
theorem runCommands_rspBytes (bytes : List Byte) {s : State} (hf : s.fault = false) (hb : s.busy = false)
    (hst : s.rspState = .none) (hok : s.lastOk) (hfit : s.rx.length + bytes.length ≤ s.explen) :
    runCommands (bytes.map .rspByte) s = .next { s with rx := s.rx ++ bytes } := by
  induction bytes generalizing s with
  | nil => simp [runCommands]
  | cons b bs ih =>
    rw [List.length_cons] at hfit
    have hroom : s.rxlen ≠ s.explen := by
      rw [State.rxlen]
      omega
    have he : Effect (.rspByte b) s { s with rx := s.rx ++ [b] } :=
      .inr ⟨hroom, by rw [← hok.1, ← hok.2, ← hst]⟩
    have hrest := ih (s := { s with rx := s.rx ++ [b] }) hf hb hst hok
      (by simp only [List.length_append, List.length_singleton, State.explen] at hfit ⊢; omega)
    exact (runCommands_cons_of_effect hf hb he hrest).trans (by simp)

/-! ### Sending (R77, R160) -/

/-- The builder filled with these arguments, the last command having succeeded. -/
def State.filled (s : State) (a f : Byte) (p : List Byte) : State :=
  { s with reqAddr := a, reqFunc := f, addrSet := true, funcSet := true, paySet := true, payload := p, result := .ok,
           detail := 0x00#8 }

/-- The state SES_TRANSACT leaves when nothing is missing (R160). -/
def State.transacted (s : State) : State :=
  { s with tx := s.builderFrame, reqBuilt := true, rx := [], rspState := .none, result := .none, detail := 0x00#8,
           busy := true, pending := some s.explen, txLog := s.txLog ++ [⟨s.builderFrame, s.explen⟩] }

theorem exec_sesTransact {s : State} (hf : s.fault = false) (hb : s.busy = false)
    (hset : s.addrSet = true ∧ s.funcSet = true ∧ s.paySet = true ∧ s.xport = true) :
    exec .sesTransact s = .next s.transacted :=
  exec_of_effect hf (.inl hb) (.inr ⟨s.transactMissing_eq_zero_iff.mpr hset, rfl⟩)

/-- The commands of SEND before its last fill the builder with valid arguments, whatever it held. -/
theorem runCommands_fill {s : State} {a f : Byte} {p : List Byte} (hf : s.fault = false) (hb : s.busy = false)
    (ha : addrValid a = true) (hfn : funcValid f = true) (hp : p.length ≤ Config.maxPay) :
    runCommands ([.reqClear, .reqAddr a, .reqFunc f] ++ macroReqPayload p) s = .next (s.filled a f p) := by
  refine runCommands_cons_of_effect hf hb rfl ?_
  refine runCommands_cons_of_effect hf hb (.inl ⟨ha, rfl⟩) ?_
  refine runCommands_cons_of_effect hf hb (.inl ⟨hfn, rfl⟩) ?_
  refine runCommands_cons_of_effect hf hb rfl ?_
  exact runCommands_reqPayloadBytes p hf hb rfl ⟨rfl, rfl⟩ (by simpa using hp)

/-- Settles O55: the builder is filled, and SES_TRANSACT finds nothing missing. -/
theorem sendTransmitsItsArguments : Obligations.SendTransmitsItsArguments := by
  intro s a f p hf hb hx ha hlo hhi hp
  refine ⟨(s.filled a f p).transacted, ?_, rfl, rfl, rfl, rfl, hf, rfl, rfl⟩
  have hfill := runCommands_fill hf hb ((addrValid_iff a).mpr ha) ((funcValid_iff f).mpr ⟨hlo, hhi⟩) hp
  have hses : exec .sesTransact (s.filled a f p) = .next (s.filled a f p).transacted :=
    exec_sesTransact hf hb ⟨rfl, rfl, rfl, hx⟩
  rw [macroSend, runCommands_append _ _ _ _ hfill, runCommands_cons hses, runCommands]

/-! ### The answer (R166) -/

section
variable {s : State} {a f : Byte} {value : List Byte} (hf : s.fault = false) (hp : s.pending = some s.explen)
  (hlen : value.length = s.vsize.toNat)
include hf hp hlen

/-- A rightly checksummed answer of the expected length is judged by its address and function alone. -/
theorem takeAnswer_buildFrame {code : ResultCode} {detail : Byte}
    (hc : (s.delivered (buildFrame a f value)).sumMatches →
      (s.delivered (buildFrame a f value)).check = (code, detail)) :
    takeAnswer (.deliver (buildFrame a f value)) s =
      { s.delivered (buildFrame a f value) with
        rspState := if code = .ok then .valid else .none, result := code, detail := detail } := by
  have hfull : (buildFrame a f value).length = s.explen := by rw [buildFrame_length, hlen, State.explen]
  have hsum : (s.delivered (buildFrame a f value)).sumMatches :=
    (State.sumMatches_iff_checksumGood hfull).mpr (checksumGood_buildFrame a f value)
  exact (takeDelivery_full hp hf hfull.le hfull.ge).trans (State.conclude_of_check (hc hsum))

end

/-- Settles O57: the checksum is right, so the address decides, and where it is right the function. -/
theorem mismatchIsNotCorruption : Obligations.MismatchIsNotCorruption :=
  fun _ _ _ _ hf hp hlen =>
    ⟨fun ha => takeAnswer_buildFrame hf hp hlen fun hsum => State.check_of_address_ne hsum ha,
      fun ha hfn => takeAnswer_buildFrame hf hp hlen fun hsum => State.check_of_function_ne hsum ha hfn⟩

/-- The value of a held response is what stands after address and function (R35). -/
theorem State.valBytes_of_rx {s : State} (hst : s.rspState ≠ .none) {a f : Byte} {value sum : List Byte}
    (hrx : s.rx = [a, f] ++ value ++ sum) (hlen : value.length = s.vsize.toNat) : s.valBytes = value := by
  apply List.ext_getElem
  · simp [State.valBytes, hlen]
  · intro i h1 h2
    have hi : i < s.vsize.toNat := hlen ▸ h2
    have hbyte : byteAt s.rx (2 + i) = value[i] := by
      rw [hrx, List.append_assoc]
      exact (byteAt_append_right [a, f] (value ++ sum) i).trans ((byteAt_append_left h2).trans (byteAt_of_lt h2))
    simp only [State.valBytes, List.getElem_map, List.getElem_range]
    rw [State.val, if_pos hi, State.view_of_ne_none hst, hbyte]

/-- An exchange that has ended OK returns the address, function and value held in RX (R161). -/
theorem State.callReturn_ok {s : State} (hb : s.busy = false) (hf : s.fault = false) (hr : s.result = .ok)
    (hst : s.rspState ≠ .none) {a f : Byte} {value sum : List Byte} (hrx : s.rx = [a, f] ++ value ++ sum)
    (hlen : value.length = s.vsize.toNat) : s.callReturn = some (.response a f value) := by
  have haddr : s.rspAddr = a := by
    rw [State.rspAddr, State.view_of_ne_none hst, hrx]
    rfl
  have hfunc : s.rspFunc = f := by
    rw [State.rspFunc, State.view_of_ne_none hst, hrx]
    rfl
  simp [State.callReturn, hb, hf, hr, haddr, hfunc, State.valBytes_of_rx hst hrx hlen]

/-- Settles O56: the echo passes all three checks against the frame SES_TRANSACT left in TX. -/
theorem echoedExchangeReturnsTheValue : Obligations.EchoedExchangeReturnsTheValue := by
  intro s value hf hb hx ha hfn hp hlen
  have hecho := takeAnswer_buildFrame (s := s.transacted) (a := s.reqAddr) (f := s.reqFunc) hf rfl hlen
    fun hsum => State.check_of_echo hsum rfl rfl
  have hnone : takeAnswer .noResponse s.transacted = _ := takeNoResponse_of_pending (s := s.transacted) rfl hf
  refine ⟨s.transacted, exec_sesTransact hf hb ⟨ha, hfn, hp, hx⟩, ?_⟩
  rw [hecho, hnone]
  refine ⟨?_, rfl, rfl, ?_⟩
  · refine State.callReturn_ok rfl ?_ rfl ?_ rfl ?_
    · exact hf
    · simp
    · exact hlen
  · simp [State.callReturn, State.transacted, hf]

/-! ### The host's own bytes (R142 to R145) -/

/-- What the host's own parse of EXPLEN bytes is validated in: a built request, RX holding the bytes, a response parsed. -/
def State.hostFed (s : State) (bytes : List Byte) : State :=
  { s with tx := s.builderFrame, reqBuilt := true, rx := bytes, rspState := .parsed, result := .ok, detail := 0x00#8 }

/-- The commands the host feeds its own bytes with end in their validation. -/
theorem runCommands_hostFed {s : State} {bytes : List Byte} (hf : s.fault = false) (hb : s.busy = false)
    (hset : s.addrSet = true ∧ s.funcSet = true ∧ s.paySet = true) (hlen : bytes.length = s.explen) :
    runCommands (.reqBuild :: macroRspBytes bytes ++ [.rspParse, .rspValidate]) s =
      .next (s.hostFed bytes).conclude := by
  refine runCommands_cons_of_effect hf hb (.inr ⟨s.missing_eq_zero_iff.mpr hset, rfl⟩) ?_
  refine runCommands_cons_of_effect hf hb rfl ?_
  have hfeed := runCommands_rspBytes bytes (s := { s.hostFed [] with rspState := .none }) hf hb rfl ⟨rfl, rfl⟩
    ((Nat.zero_add _).trans_le hlen.le)
  refine (runCommands_append _ _ _ _ hfeed).trans ?_
  refine runCommands_cons_of_effect hf hb (.inr ⟨hlen.ge, rfl⟩) ?_
  refine runCommands_cons_of_effect hf hb (.inr ⟨(State.validateMissing_eq_zero_iff _).mpr ⟨rfl, rfl⟩, rfl⟩) ?_
  rfl

/-- Settles O58: both ways end in a validation of the same bytes against the same frame. -/
theorem hostFedEqualsTransportFed : Obligations.HostFedEqualsTransportFed := by
  intro s bytes hf hb hx ha hfn hp hlen
  refine ⟨s.transacted, (s.hostFed bytes).conclude, exec_sesTransact hf hb ⟨ha, hfn, hp, hx⟩,
    runCommands_hostFed hf hb ⟨ha, hfn, hp⟩ hlen, ?_⟩
  have hdel : takeAnswer (.deliver bytes) s.transacted = (s.transacted.delivered bytes).conclude :=
    takeDelivery_full (s := s.transacted) rfl hf hlen.le hlen.ge
  have hbusy : s.hostFed bytes = { s.hostFed bytes with busy := false } := by rw [← hb]; rfl
  rw [hdel, hlen, hbusy]
  rfl

end Sys2Proof.Machine
end
